-- ==== Sys2Proof/Word.lean ====
section
/-! DEFINITION. The plain value types: the event word, the lamp latch, one-bit levels (00_scope.md R8, R9). -/

namespace Sys2Proof

/-- One event word: exactly 8 bits (R55). -/
abbrev Byte := BitVec 8

/-- The five lamps, 1 = on: bit 0 front light, bit 1 left light, bit 2 right light, bit 3 left indicator,
bit 4 right indicator (R52). -/
abbrev Lamps := BitVec 5

/-- One bit: a raw pin level, or a logical state (R9). -/
abbrev Level := Bool

/-- The raw pin level 0 (R9). -/
abbrev LOW : Level := false

/-- The raw pin level 1 (R9). -/
abbrev HIGH : Level := true

/-- The logical value 1 of the brake sample (R9). -/
abbrev HELD : Level := true

/-- The logical value 0 of the brake sample (R9). -/
abbrev RELEASED : Level := false

end Sys2Proof
end

