-- ==== Sys2Proof/Config.lean ====
section
/-! DEFINITION. The configuration record: every parameter of 00_scope.md R7 that a transition depends on.
Its default values (the source's, or the spec's defaults of OPEN parameters) are Machine/Defaults.lean.
T_TICK and T_OVF enter no transition (R149). -/

namespace Sys2Proof

/-- N_DEBUG_POS: the number of debug positions; the size of a closed type (R7, R61). -/
abbrev nDebugPos : Nat := 11

/-- RESYNC_GATE: does the re-sync act when the gate passes (`outside`) or when it fails (`inside`)
(R7; 92_eei_decisions.md D17). -/
inductive ResyncGate where
  | outside
  | inside
deriving DecidableEq, Repr

/-- What an operation of one instant comes from: the overflow, a line, the main loop (R124, R127). -/
inductive EventSource where
  | ovf
  | rst
  | brk
  | dt
  | clk
  | mainLoop
deriving DecidableEq, Repr

/-- Every source, in R127's default order of EVENT_ORDER. -/
def allSources : List EventSource := [.ovf, .rst, .brk, .dt, .clk, .mainLoop]

/-- The configuration constants: hard-wired, read-only, fixed at build time (R7, R30). -/
structure Config where
  /-- CLOCK_BITS, the spec's W: width of `clock` and `lastResetTime`. -/
  clockBits : Nat
  /-- DEBOUNCE_MIN: minimum interval of the debounce gate. -/
  debounceMin : Nat
  /-- DEBUG_WINDOW: qualifying-press window of the debug-entry counter. -/
  debugWindow : Nat
  /-- DEBUG_PRESSES: qualifying presses that promote to Debug. -/
  debugPresses : Nat
  /-- HOLD_LIMIT: LongPress fires when `holdCounter` exceeds it. -/
  holdLimit : Nat
  /-- ROT_THRESH: a rotation fires when `desync` reaches plus or minus this. -/
  rotThresh : Nat
  /-- PERIOD_BLINK: period of Left, Right, Hazard, Pulse and All. -/
  periodBlink : Nat
  /-- PERIOD_ALL_SUB: sub-cycle of All. -/
  periodAllSub : Nat
  /-- PERIOD_SOS: period of Sos. -/
  periodSos : Nat
  /-- The (lo, hi] windows of Left, Right and Hazard (R103). -/
  blinkWindows : List (Nat × Nat)
  /-- The (lo, hi] windows of the double pulse, used by Pulse and All (R106, R107). -/
  pulseWindows : List (Nat × Nat)
  /-- The (lo, hi] windows of Sos (R108). -/
  sosWindows : List (Nat × Nat)
  /-- SEQ_STEPS: steps of the debug-entry test sequence. -/
  seqSteps : Nat
  /-- SEQ_STEP_TICKS: ticks per test-sequence step. -/
  seqStepTicks : Nat
  /-- DEBUG_LUT (R109, R110). -/
  debugLut : Vector Lamps nDebugPos
  /-- TESTSEQ_LUT, one entry for each of the SEQ_STEPS steps (R38, R91). -/
  testSeqLut : List Lamps
  /-- BRAKE_HELD_LEVEL: the pin level that means "brake held". -/
  brakeHeldLevel : Level
  /-- LIGHT_ON_LEVEL: the pin level that lights a light. -/
  lightOnLevel : Level
  /-- IND_ON_LEVEL: the pin level that lights an indicator. -/
  indOnLevel : Level
  /-- RST_PRESSED_LEVEL: the reset-pin level that means "pressed". -/
  rstPressedLevel : Level
  /-- RESYNC_GATE. -/
  resyncGate : ResyncGate
  /-- EVENT_ORDER: the order in which coincident events are applied (R127). -/
  eventOrder : List EventSource
deriving DecidableEq, Repr

/-- What a read of TESTSEQ_LUT outside the table would show. The spec has no such read (U8). A FREE VALUE (log 24):
nothing constrains it. -/
opaque Config.outsideTestSeqLut : Nat → Lamps

/-- `Lut(TESTSEQ_LUT, k)` (R9, R38). -/
def Config.testSeqImage (c : Config) (k : Nat) : Lamps := (c.testSeqLut[k]?).getD (Config.outsideTestSeqLut k)

end Sys2Proof
end

