-- ==== Sys2Proof/Machine/Defaults.lean ====
section
/-! DEFINITION. The default configuration: the source's values and the spec's defaults of its OPEN parameters
(00_scope.md R7; 44_pattern_generator.md R103 to R110; 43_mode_state_machine.md R91). -/

namespace Sys2Proof

/-- The default DEBUG_LUT (R110): five single outputs, all, none, front and indicators, lights only, left side,
right side. DESIGN CHOICE (the spec's default of an OPEN parameter, log 6): unsafe for a claim that names an entry. -/
def defaultDebugLut : Vector Lamps nDebugPos :=
  #v[0x01, 0x02, 0x04, 0x08, 0x10, 0x1F, 0x00, 0x19, 0x07, 0x0A, 0x14]

/-- The default TESTSEQ_LUT (R91): all lamps on at even steps, all off at odd steps.
DESIGN CHOICE (the spec's default of an OPEN parameter, log 6): unsafe for a claim that names an entry. -/
def defaultTestSeqLut : List Lamps :=
  [0x1F, 0x00, 0x1F, 0x00, 0x1F, 0x00, 0x1F, 0x00, 0x1F, 0x00, 0x1F, 0x00, 0x1F, 0x00, 0x1F]

/-- The window (0,250] of Left, Right and Hazard (R103, R105). -/
def defaultBlinkWindows : List (Nat × Nat) := [(0, 250)]

/-- The windows (0,100] and (150,250] of the double pulse (R106, R107). -/
def defaultPulseWindows : List (Nat × Nat) := [(0, 100), (150, 250)]

/-- The six windows of Sos (R108). -/
def defaultSosWindows : List (Nat × Nat) :=
  [(0, 100), (200, 300), (400, 500), (700, 900), (1000, 1200), (1300, 1500)]

/-- The configuration with every parameter at R7's value. DESIGN CHOICE where R7 says OPEN (log 6): unsafe for a
claim about this configuration only; every other statement is for all configurations. -/
def defaultConfig : Config where
  clockBits := 32
  debounceMin := 15
  debugWindow := 60
  debugPresses := 11
  holdLimit := 50
  rotThresh := 2
  periodBlink := 500
  periodAllSub := 250
  periodSos := 1700
  blinkWindows := defaultBlinkWindows
  pulseWindows := defaultPulseWindows
  sosWindows := defaultSosWindows
  seqSteps := 15
  seqStepTicks := 60
  debugLut := defaultDebugLut
  testSeqLut := defaultTestSeqLut
  brakeHeldLevel := LOW
  lightOnLevel := LOW
  indOnLevel := HIGH
  rstPressedLevel := LOW
  resyncGate := .outside
  eventOrder := allSources

end Sys2Proof
end

