-- ==== Sys2Proof/Syntax.lean ====
section
/-! DEFINITION. The operations, one constructor per row of spec/opcode_table.json (30_encoding.md R59). -/

namespace Sys2Proof

/-- One operation: the spec's analogue of an instruction (R2). An operand is one bit used as it stands (R56, R58). -/
inductive Instr where
  /-- `NOP` (R71). -/
  | nop
  /-- `PIN.CLK v`: the encoder CLK line changed to raw level `v` (R74). -/
  | pinClk (v : Level)
  /-- `PIN.DT v`: the encoder DT line changed to raw level `v` (R70). -/
  | pinDt (v : Level)
  /-- `PIN.RST v`: the reset push-button pin changed to raw level `v` (R68). -/
  | pinRst (v : Level)
  /-- `PIN.BRK v`: the brake switch changed to logical state `v`, 1 = HELD (R69). -/
  | pinBrk (v : Level)
  /-- `OVF`: the hold-timer countdown overflowed (R83). -/
  | ovf
  /-- `RENDER`: first micro-operation of a tick (R101). -/
  | render
  /-- `MIRROR`: second micro-operation of a tick (R114). -/
  | mirror
  /-- `RESYNC`: third micro-operation of a tick (R115). -/
  | resync
  /-- `ADVANCE`: fourth micro-operation of a tick (R116). -/
  | advance
  /-- `RESET brk0 rst0 dt0 clk0`: power-on or system reset (R135). -/
  | reset (brk0 rst0 dt0 clk0 : Level)
deriving DecidableEq, Repr

/-- The mnemonic of the opcode map (R59, R63). -/
def Instr.mnemonic : Instr → String
  | .nop => "NOP"
  | .pinClk _ => "PIN.CLK"
  | .pinDt _ => "PIN.DT"
  | .pinRst _ => "PIN.RST"
  | .pinBrk _ => "PIN.BRK"
  | .ovf => "OVF"
  | .render => "RENDER"
  | .mirror => "MIRROR"
  | .resync => "RESYNC"
  | .advance => "ADVANCE"
  | .reset _ _ _ _ => "RESET"

/-- Is it the RESET operation? -/
def Instr.isReset : Instr → Bool
  | .reset _ _ _ _ => true
  | .nop | .pinClk _ | .pinDt _ | .pinRst _ | .pinBrk _ | .ovf
  | .render | .mirror | .resync | .advance => false

end Sys2Proof
end

