-- ==== Sys2Proof/Machine/Enums.lean ====
section
/-! DEFINITION. The closed enumerations of the state, their cyclic orders and their encodings
(30_encoding.md R49 to R51, R54, R61). -/

namespace Sys2Proof.Machine

/-- The top-level mode (R14). -/
inductive Mode where
  | off
  | left
  | right
  | emergency
  | debug
deriving DecidableEq, Repr

/-- The emergency pattern (R15). -/
inductive EPat where
  | hazard
  | pulse
  | all
  | sos
deriving DecidableEq, Repr

/-- The next micro-operation of the main loop (R26). -/
inductive TPhase where
  | render
  | mirror
  | resync
  | advance
deriving DecidableEq, Repr

/-- `succ_n(v)`: cyclic successor over 0 .. n-1 (R9). -/
def succN {n : Nat} (v : Fin n) : Fin n :=
  ⟨(v.val + 1) % n, Nat.mod_lt _ (Nat.lt_of_le_of_lt (Nat.zero_le _) v.isLt)⟩

/-- `pred_n(v)`: cyclic predecessor over 0 .. n-1 (R9). -/
def predN {n : Nat} (v : Fin n) : Fin n :=
  ⟨(v.val + n - 1) % n, Nat.mod_lt _ (Nat.lt_of_le_of_lt (Nat.zero_le _) v.isLt)⟩

/-- The cycle Hazard → Pulse → All → Sos → Hazard (R50, R94; 90_conflicts.md C1). -/
def EPat.next : EPat → EPat
  | .hazard => .pulse
  | .pulse => .all
  | .all => .sos
  | .sos => .hazard

/-- The order RENDER, MIRROR, RESYNC, ADVANCE, 3 wrapping to 0 (R117). -/
def TPhase.next : TPhase → TPhase
  | .render => .mirror
  | .mirror => .resync
  | .resync => .advance
  | .advance => .render

/-- Encoding of `mode` (R49). -/
def Mode.code : Mode → BitVec 3
  | .off => 0
  | .left => 1
  | .right => 2
  | .emergency => 3
  | .debug => 4

/-- The mode an encoded value shows; R61's advice to hardware decodes the unreachable 5, 6, 7 as Off.
No operation of the model reads an encoded mode. -/
def Mode.ofCode (b : BitVec 3) : Mode :=
  match b.toNat with
  | 1 => .left
  | 2 => .right
  | 3 => .emergency
  | 4 => .debug
  | _ => .off

/-- Encoding of `epat` (R50). -/
def EPat.code : EPat → BitVec 2
  | .hazard => 0
  | .pulse => 1
  | .all => 2
  | .sos => 3

/-- Encoding of `dpos` (R51). -/
def dposCode (d : Fin nDebugPos) : BitVec 4 := BitVec.ofNat 4 d.val

/-- The position an encoded value shows; R61's advice to hardware decodes 11 .. 15 as 0. -/
def dposOfCode (b : BitVec 4) : Fin nDebugPos :=
  if h : b.toNat < nDebugPos then ⟨b.toNat, h⟩ else 0

/-- Encoding of `tphase` (R54). -/
def TPhase.code : TPhase → BitVec 2
  | .render => 0
  | .mirror => 1
  | .resync => 2
  | .advance => 3

/-- The micro-operation that `tphase` names (R117). -/
def TPhase.instr : TPhase → Instr
  | .render => .render
  | .mirror => .mirror
  | .resync => .resync
  | .advance => .advance

/-- The phase in which an operation is in turn: a main-loop word names one, no other operation does (R60, R117). -/
def instrPhase : Instr → Option TPhase
  | .render => some .render
  | .mirror => some .mirror
  | .resync => some .resync
  | .advance => some .advance
  | .nop | .pinClk _ | .pinDt _ | .pinRst _ | .pinBrk _ | .ovf | .reset _ _ _ _ => none

end Sys2Proof.Machine
end

