-- ==== Sys2Proof/Machine/State.lean ====
section
/-! DEFINITION. The whole state of the block as plain data (10_state.md R13 to R27), why a step can stop, and the
state after reset (R35). There is no memory (20_memory.md R37) and there are no exceptions (60_exceptions.md R120). -/

namespace Sys2Proof.Machine

/-- The raw levels on the four input lines (R43). -/
structure Lines where
  encClk : Level
  encDt : Level
  btn : Level
  brake : Level
deriving DecidableEq, Repr

/-- The input ports of the block at one instant (R43): the lines, and the strobes `tmr_ovf`, `tick` and `rst_sys`. -/
structure PortInputs where
  lines : Lines
  tmrOvf : Bool
  tick : Bool
  rstSys : Bool
deriving DecidableEq, Repr

/-- The state. Every register of R14 to R27 under its own name, the configuration in the role of control registers
(R30), and the model's own input queues and power-on flag. -/
@[ext]
structure State where
  /-- The configuration constants: hard-wired, no operation writes them (R30; log 4). -/
  cfg : Config
  /-- `mode` (R14). -/
  mode : Mode
  /-- `epat` (R15): keeps its value in every mode. -/
  epat : EPat
  /-- `dpos` (R16): keeps its value in every mode. -/
  dpos : Fin nDebugPos
  /-- `clock` (R17): a W-bit unsigned value, as a number below 2^W (log 9). -/
  clock : Nat
  /-- `lastResetTime` (R18): a W-bit unsigned value, as a number below 2^W (log 9). -/
  lastResetTime : Nat
  /-- `clkLevel` (R19): last-seen CLK level. -/
  clkLevel : Level
  /-- `desync` (R20): the signed accumulator (log 8). -/
  desync : Int
  /-- `armed` (R21): the hold-timer countdown runs. -/
  armed : Bool
  /-- `holdCounter` (R22): overflows since the timer was armed (log 8). -/
  holdCounter : Nat
  /-- `dbgCount` (R23): qualifying brake-held presses (log 8). -/
  dbgCount : Nat
  /-- `out` (R24): the lamp latch. -/
  out : Lamps
  /-- `seqActive` (R25): the test sequence owns `out`. -/
  seqActive : Bool
  /-- `seqStep` (R25): the test-sequence step shown, below SEQ_STEPS (log 8, log 10). -/
  seqStep : Nat
  /-- `seqTimer` (R25): ticks the step has been shown for (log 8). -/
  seqTimer : Nat
  /-- `tphase` (R26): the main loop's next micro-operation. -/
  tphase : TPhase
  /-- `in_dt` (R27): raw DT level. -/
  inDt : Level
  /-- `in_rst` (R27): raw reset-pin level, LOW = pressed. -/
  inRst : Level
  /-- `in_brk` (R27): logical brake state, HELD = 1. -/
  inBrk : Level
  /-- What the spec keeps of the hidden countdown `tcnt` (R28 a, R80): its next overflow comes a whole period after
  the last clear (an ARM, a DISARM or a RESET), because it has not overflowed since. DESIGN CHOICE (log 11): safe. -/
  tcntCleared : Bool
  /-- The event words still to come, oldest first: the model's input, read before `ports`. DESIGN CHOICE (log 1): safe. -/
  trace : List Byte
  /-- What the input ports will show, one instant after the other, first things first: read when no word waits (R43).
  DESIGN CHOICE (log 23): unsafe for claims about instants. -/
  ports : List PortInputs
  /-- A RESET has been performed since power-on (U4). DESIGN CHOICE (log 14): safe. -/
  resetDone : Bool
deriving DecidableEq, Repr

/-- The block has no exception: no operation can fail, fault or trap (R120, R121). -/
inductive Fault : Type
deriving DecidableEq, Repr

/-- Why a model takes no step: the trace or the configuration is ill formed (R60, R122). Every one is safe: the
state is untouched and nothing can be proved about what follows. -/
inductive Refusal where
  /-- Raised by `exec`'s arm of an operation that has no meaning yet; no arm is left. Safe. -/
  | notModelled (mnemonic : String)
  /-- Raised by the fetch: the word's `op` is reserved (R60; U1). Safe. -/
  | reservedOpcode (word : Byte)
  /-- Raised by the fetch: the word's `zero` field is not zero (R60; U2). Safe. -/
  | nonzeroPad (word : Byte)
  /-- Raised by RENDER, MIRROR, RESYNC and ADVANCE: the word is out of turn, `tphase` names `due` (R60, R117; U3). Safe. -/
  | outOfTurn (op due : TPhase)
  /-- Raised by the fetch: an operation other than RESET before the first RESET (U4; R137). Safe. -/
  | beforeReset
  /-- Raised by the fetch: the block cannot be built with this configuration (R7; U9; log 15). Safe. -/
  | badConfiguration
deriving DecidableEq, Repr

/-- The state after `RESET brk0 rst0 dt0 clk0` of a block with configuration `c` (R35), no input waiting. -/
def State.afterReset (c : Config) (brk0 rst0 dt0 clk0 : Level) : State where
  cfg := c
  mode := .off
  epat := .hazard
  dpos := 0
  clock := 0
  lastResetTime := 0
  clkLevel := clk0
  desync := 0
  armed := false
  holdCounter := 0
  dbgCount := 0
  out := 0b00000
  seqActive := false
  seqStep := 0
  seqTimer := 0
  tphase := .render
  inDt := dt0
  inRst := rst0
  inBrk := brk0
  tcntCleared := true
  trace := []
  ports := []
  resetDone := true

/-- The state after reset: R35's values, the default configuration (log 6), and the idle levels of `RESET 0b0111`
(R58): brake released, button up, DT high, CLK high. DESIGN CHOICE (log 5, log 7): unsafe for a claim about this one
state, since the levels at reset are operands. -/
def State.reset : State := State.afterReset defaultConfig RELEASED HIGH HIGH HIGH

end Sys2Proof.Machine
end

