-- ==== Sys2Proof/Machine/Operands.lean ====
section
/-! DEFINITION. The operand of a PIN operation against its edge reference (40_debounce_edge_detector.md R66), and
the levels with a meaning (00_scope.md R7, R9). -/

namespace Sys2Proof.Machine

/-- An edge: the operand differs from the level last seen (R66). -/
def isEdge (reference v : Level) : Bool := v != reference

/-- A falling edge: reference 1, operand 0 (R66). -/
def fallingEdge (reference v : Level) : Bool := reference && !v

/-- A rising edge: reference 0, operand 1 (R66). -/
def risingEdge (reference v : Level) : Bool := !reference && v

/-- Does a raw reset-pin level mean "pressed" (R7: RST_PRESSED_LEVEL, LOW by default)? -/
def isPressed (c : Config) (v : Level) : Bool := v == c.rstPressedLevel

/-- The logical brake state of a raw brake-pin level (R56: `v = (pin level == BRAKE_HELD_LEVEL)`). -/
def brakeState (c : Config) (pin : Level) : Level := pin == c.brakeHeldLevel

end Sys2Proof.Machine
end

