-- ==== Sys2Proof/Machine/Ops.lean ====
section
/-! DEFINITION. The shared operations: W-bit arithmetic and windows (00_scope.md R9), the hold timer's ARM and DISARM
(42_hold_timer.md R81, R82), the turn of a main-loop word (R117). The block takes no exception and returns from none
(60_exceptions.md R120, R128, R129), so there is no such operation here. -/

namespace Sys2Proof.Machine

/-- `a +w b`: addition modulo 2^W (R9). -/
def addW (w a b : Nat) : Nat := (a + b) % 2 ^ w

/-- `a -w b`: subtraction modulo 2^W (R9). -/
def subW (w a b : Nat) : Nat := (a % 2 ^ w + (2 ^ w - b % 2 ^ w)) % 2 ^ w

/-- `win(lo, hi, p)`: open at `lo`, closed at `hi` (R9). -/
def win (lo hi p : Nat) : Bool := decide (lo < p) && decide (p ≤ hi)

/-- Is `p` in one of the windows of a list (R38)? -/
def inWindows (ws : List (Nat × Nat)) (p : Nat) : Bool := ws.any fun w => win w.1 w.2 p

/-- Write `out[0]`, the front light, and leave the other lamps (R52). -/
def setFront (out : Lamps) (f : Level) : Lamps :=
  (out &&& 0b11110#5) ||| (if f then 0b00001#5 else 0b00000#5)

/-- `ARM` (R81): the count and the countdown start over, the timer runs. -/
def opArm (s : State) : State :=
  { s with holdCounter := 0, armed := true, tcntCleared := true }

/-- `DISARM` (R82): the timer stops, the count and the countdown are cleared. -/
def opDisarm (s : State) : State :=
  { s with armed := false, holdCounter := 0, tcntCleared := true }

/-- A main-loop micro-operation `p` with effect `f`: legal only when `tphase` names it, and it leaves `tphase` at the
next one (R117); otherwise the trace is ill formed (R60). -/
def inTurn (p : TPhase) (f : State → State) (s : State) : Host.Outcome State Fault Refusal :=
  if s.tphase = p then .next { f s with tphase := p.next } else .refused (.outOfTurn p s.tphase)

end Sys2Proof.Machine
end

