-- ==== Sys2Proof/Machine/Flags.lean ====
section
/-! DEFINITION. The conditions the operations test: the debounce gate (40_debounce_edge_detector.md R67), the
debug-entry window (43_mode_state_machine.md R89), the re-sync condition (45_brake_mirror_and_tick.md R115). The block
has no condition codes (10_state.md R29). -/

namespace Sys2Proof.Machine

/-- `accept(cur, last, min)` (R67): strictly more than `min` since `last`, modulo 2^W, or `cur` below `last`. -/
def accept (w cur last min : Nat) : Bool :=
  decide (min < subW w cur last) || decide (cur < last)

/-- The debounce gate of the reset pin at the current tick (R68). -/
def gateOpen (s : State) : Bool :=
  accept s.cfg.clockBits s.clock s.lastResetTime s.cfg.debounceMin

/-- A press is within the debug-entry window (R89): at most DEBUG_WINDOW since the last accepted edge, or wrapped. -/
def qualifies (s : State) : Bool :=
  decide (subW s.cfg.clockBits s.clock s.lastResetTime ≤ s.cfg.debugWindow) ||
    decide (s.clock < s.lastResetTime)

/-- The gate's part of the re-sync condition (R115; RESYNC_GATE). The reading `inside` is the gate failing
(DEDUCED from D17, log 21): safe, a value of a parameter. -/
def resyncGateOk (s : State) : Bool :=
  match s.cfg.resyncGate with
  | .outside => gateOpen s
  | .inside => !gateOpen s

/-- The re-sync disarms: the raw pin reads released and the gate condition holds (R115). -/
def resyncDisarms (s : State) : Bool := !isPressed s.cfg s.inRst && resyncGateOk s

/-- The hold timer fires at this overflow: it runs, and the count would exceed HOLD_LIMIT (R83). -/
def ovfFires (s : State) : Bool := s.armed && decide (s.cfg.holdLimit < s.holdCounter + 1)

end Sys2Proof.Machine
end

