-- ==== Sys2Proof/Machine/ModeMachine.lean ====
section
/-! DEFINITION. The mode state machine's internal operations (43_mode_state_machine.md R88 to R92,
42_hold_timer.md R84, 41_quadrature_decoder.md R75, R76). None has an event word. -/

namespace Sys2Proof.Machine

/-- `SEQSTART` (R91): the test sequence starts at step 0 and shows it at once. -/
def opSeqStart (s : State) : State :=
  { s with seqActive := true, seqStep := 0, seqTimer := 0, out := s.cfg.testSeqImage 0 }

/-- `SEQSTEP` (R92): show the step, count its ticks, go on to the next step or end the sequence. -/
def opSeqStep (s : State) : State :=
  let shown := { s with out := s.cfg.testSeqImage s.seqStep, seqTimer := s.seqTimer + 1 }
  if shown.seqTimer = s.cfg.seqStepTicks then
    if s.seqStep = s.cfg.seqSteps - 1 then
      { shown with seqTimer := 0, seqActive := false, seqStep := 0 }
    else
      { shown with seqTimer := 0, seqStep := s.seqStep + 1 }
  else shown

/-- The promotion to Debug (R89): the count starts over and the test sequence starts. -/
def opPromote (s : State) : State :=
  opSeqStart { s with dbgCount := 0, mode := .debug }

/-- `DBGENTRY` (R89). The literal 10 of the rule is DEBUG_PRESSES - 1 (log 16). -/
def opDbgEntry (s : State) : State :=
  if s.inBrk = HELD then
    if s.mode = .debug then s
    else if qualifies s then
      if s.cfg.debugPresses ≤ s.dbgCount + 1 then opPromote s
      else { s with dbgCount := s.dbgCount + 1 }
    else { s with dbgCount := 0 }
  else { s with dbgCount := 0 }

/-- Step 3 of PRESS (R88): Emergency advances the pattern and restarts the clock, Debug stays, the rest go Off. -/
def opPressMode (s : State) : State :=
  match s.mode with
  | .emergency => { s with clock := 0, epat := s.epat.next }
  | .debug => s
  | .off | .left | .right => { s with mode := .off }

/-- `PRESS` (R88): DBGENTRY on the old `lastResetTime`, the time of the edge, the mode, ARM. -/
def opPress (s : State) : State :=
  let s1 := opDbgEntry s
  let s2 := { s1 with lastResetTime := s1.clock }
  opArm (opPressMode s2)

/-- `RELEASE` (R90). -/
def opRelease (s : State) : State :=
  opDisarm { s with lastResetTime := s.clock }

/-- `LONGPRESS` (R84): writes `mode` only. -/
def opLongPress (s : State) : State :=
  match s.mode with
  | .emergency | .debug => { s with mode := .off }
  | .off | .left | .right => { s with mode := .emergency }

/-- `ROTATE_LEFT` (R75). -/
def opRotateLeft (s : State) : State :=
  if s.mode = .debug then { s with dpos := predN s.dpos } else { s with mode := .left }

/-- `ROTATE_RIGHT` (R76). -/
def opRotateRight (s : State) : State :=
  if s.mode = .debug then { s with dpos := succN s.dpos } else { s with mode := .right }

end Sys2Proof.Machine
end

