-- ==== Sys2Proof/Machine/HoldTimer.lean ====
section
/-! DEFINITION. OVF: the hold timer's overflow (42_hold_timer.md R83). -/

namespace Sys2Proof.Machine

/-- `OVF` (R83): nothing while stopped; else count, and at the overflow past HOLD_LIMIT disarm and fire LONGPRESS. -/
def execOvf (s : State) : Host.Outcome State Fault Refusal :=
  if s.armed then
    let s1 := { s with holdCounter := s.holdCounter + 1, tcntCleared := false }
    if s.cfg.holdLimit < s1.holdCounter then .next (opLongPress (opDisarm s1)) else .next s1
  else .next s

end Sys2Proof.Machine
end

