-- ==== Sys2Proof/Machine/Pattern.lean ====
section
/-! DEFINITION. RENDER and the pattern generator PG (44_pattern_generator.md R99 to R109). -/

namespace Sys2Proof.Machine

/-- Five lamps in the printed order RI LI RL LL F (R52). -/
def lamps (ri li rl ll f : Bool) : Lamps :=
  BitVec.ofBool ri ++ BitVec.ofBool li ++ BitVec.ofBool rl ++ BitVec.ofBool ll ++ BitVec.ofBool f

/-- The mask of the patterns that leave the front light alone (R99, R111). -/
def sidesMask : Lamps := 0b11110

/-- The mask of the patterns that drive all five lamps (R107, R109). -/
def allMask : Lamps := 0b11111

/-- Off (R102). -/
def pgOff : Lamps × Lamps := (sidesMask, 0b00000)

/-- The half-period blink of Left, Right and Hazard (R103). -/
def blinkOn (c : Config) (clock : Nat) : Bool := inWindows c.blinkWindows (clock % c.periodBlink)

/-- Left (R103). -/
def pgLeft (c : Config) (clock : Nat) : Lamps × Lamps :=
  let b := blinkOn c clock
  (sidesMask, lamps false b false b false)

/-- Right (R104). -/
def pgRight (c : Config) (clock : Nat) : Lamps × Lamps :=
  let b := blinkOn c clock
  (sidesMask, lamps b false b false false)

/-- Emergency, Hazard (R105). -/
def pgHazard (c : Config) (clock : Nat) : Lamps × Lamps :=
  let b := blinkOn c clock
  (sidesMask, lamps b b b b false)

/-- Emergency, Pulse (R106). -/
def pgPulse (c : Config) (clock : Nat) : Lamps × Lamps :=
  let b := inWindows c.pulseWindows (clock % c.periodBlink)
  (sidesMask, lamps b b b b false)

/-- Emergency, All (R107): the double pulse on the sub-cycle, the left side in the first half, the right in the
second, the front light in both. The half is PERIOD_ALL_SUB long (log 16). -/
def pgAll (c : Config) (clock : Nat) : Lamps × Lamps :=
  let d := inWindows c.pulseWindows (clock % c.periodAllSub)
  let first := decide (clock % c.periodBlink < c.periodAllSub)
  (allMask, lamps (d && !first) (d && first) (d && !first) (d && first) d)

/-- Emergency, Sos (R108). -/
def pgSos (c : Config) (clock : Nat) : Lamps × Lamps :=
  let b := inWindows c.sosWindows (clock % c.periodSos)
  (sidesMask, lamps b b b b false)

/-- Debug (R109): the table entry of the position; `clock` is not used. -/
def pgDebug (c : Config) (dpos : Fin nDebugPos) : Lamps × Lamps := (allMask, c.debugLut.get dpos)

/-- `PG(mode, epat, dpos, clock)` = (mask, val) (R99). -/
def pg (c : Config) (mode : Mode) (epat : EPat) (dpos : Fin nDebugPos) (clock : Nat) : Lamps × Lamps :=
  match mode with
  | .off => pgOff
  | .left => pgLeft c clock
  | .right => pgRight c clock
  | .emergency =>
    match epat with
    | .hazard => pgHazard c clock
    | .pulse => pgPulse c clock
    | .all => pgAll c clock
    | .sos => pgSos c clock
  | .debug => pgDebug c dpos

/-- Drive the masked bits of the latch, keep the others (R101). -/
def drive (out : Lamps) (p : Lamps × Lamps) : Lamps := (out &&& ~~~p.1) ||| p.2

/-- The effect of RENDER on the latch and the test sequence (R101). -/
def opRender (s : State) : State :=
  if s.seqActive then opSeqStep s
  else { s with out := drive s.out (pg s.cfg s.mode s.epat s.dpos s.clock) }

/-- `RENDER` (R101). -/
def execRender (s : State) : Host.Outcome State Fault Refusal := inTurn .render opRender s

end Sys2Proof.Machine
end

