-- ==== Sys2Proof/Machine/Pins.lean ====
section
/-! DEFINITION. PIN.RST, PIN.BRK, PIN.DT and NOP (40_debounce_edge_detector.md R68 to R71). -/

namespace Sys2Proof.Machine

/-- `NOP` (R71). -/
def execNop (s : State) : Host.Outcome State Fault Refusal := .next s

/-- `PIN.DT v` (R70): stores its operand, edge or not (90_conflicts.md C16). -/
def execPinDt (v : Level) (s : State) : Host.Outcome State Fault Refusal :=
  .next { s with inDt := v }

/-- An accepted edge of the reset pin: PRESS or RELEASE (R68). -/
def opResetEdge (v : Level) (s : State) : State :=
  if isPressed s.cfg v then opPress s else opRelease s

/-- `PIN.RST v` (R68): the edge reference moves on every edge, the gate decides about the rest. -/
def execPinRst (v : Level) (s : State) : Host.Outcome State Fault Refusal :=
  if isEdge s.inRst v then
    let s1 := { s with inRst := v }
    if gateOpen s1 then .next (opResetEdge v s1) else .next s1
  else .next s

/-- `PIN.BRK v` (R69): a release edge clears the debug-entry count. -/
def execPinBrk (v : Level) (s : State) : Host.Outcome State Fault Refusal :=
  if isEdge s.inBrk v then
    if v = RELEASED then .next { s with inBrk := v, dbgCount := 0 } else .next { s with inBrk := v }
  else .next s

end Sys2Proof.Machine
end

