-- ==== Sys2Proof/Machine/Quadrature.lean ====
section
/-! DEFINITION. PIN.CLK: the quadrature decoder with re-synchronisation (41_quadrature_decoder.md R73 to R77). -/

namespace Sys2Proof.Machine

/-- Step 2 of PIN.CLK (R74): agreement of the new CLK level with DT counts up, disagreement down. -/
def vote (s : State) (v : Level) : Int := if v = s.inDt then s.desync + 1 else s.desync - 1

/-- Steps 1 to 3 of PIN.CLK (R74): count, and emit a rotation at plus or minus ROT_THRESH (log 16). -/
def opDecode (v : Level) (s : State) : State :=
  if vote s v ≤ -(s.cfg.rotThresh : Int) then opRotateLeft { s with desync := 0, clock := 0 }
  else if (s.cfg.rotThresh : Int) ≤ vote s v then opRotateRight { s with desync := 0, clock := 0 }
  else { s with desync := vote s v }

/-- `PIN.CLK v` (R74); in Emergency only the level is stored (R77). -/
def execPinClk (v : Level) (s : State) : Host.Outcome State Fault Refusal :=
  if isEdge s.clkLevel v then
    if s.mode = .emergency then .next { s with clkLevel := v }
    else .next { opDecode v s with clkLevel := v }
  else .next s

end Sys2Proof.Machine
end

