-- ==== Sys2Proof/Machine/Reset.lean ====
section
/-! DEFINITION. RESET (70_reset_and_hazards.md R135). -/

namespace Sys2Proof.Machine

/-- `RESET brk0 rst0 dt0 clk0` (R135): every register gets its reset value, whatever it held; the four samples get the
levels given. The configuration is hard-wired (R30) and the events still to come stay to come (log 20). -/
def execReset (brk0 rst0 dt0 clk0 : Level) (s : State) : Host.Outcome State Fault Refusal :=
  .next
    { s with
      mode := .off, epat := .hazard, dpos := 0,
      clock := 0, lastResetTime := 0,
      clkLevel := clk0, desync := 0,
      armed := false, holdCounter := 0, tcntCleared := true,
      dbgCount := 0,
      out := 0b00000,
      seqActive := false, seqStep := 0, seqTimer := 0,
      tphase := .render,
      inDt := dt0, inRst := rst0, inBrk := brk0,
      resetDone := true }

end Sys2Proof.Machine
end

