-- ==== Sys2Proof/Machine/Tick.lean ====
section
/-! DEFINITION. MIRROR, RESYNC and ADVANCE (45_brake_mirror_and_tick.md R114 to R116). -/

namespace Sys2Proof.Machine

/-- The effect of MIRROR (R114): outside Debug and outside the test sequence the front light shows the brake. -/
def opMirror (s : State) : State :=
  if s.mode ≠ .debug ∧ s.seqActive = false then { s with out := setFront s.out s.inBrk } else s

/-- `MIRROR` (R114). -/
def execMirror (s : State) : Host.Outcome State Fault Refusal := inTurn .mirror opMirror s

/-- The effect of RESYNC (R115): it only ever disarms (90_conflicts.md C8). -/
def opResync (s : State) : State := if resyncDisarms s then opDisarm s else s

/-- `RESYNC` (R115). -/
def execResync (s : State) : Host.Outcome State Fault Refusal := inTurn .resync opResync s

/-- The effect of ADVANCE (R116): `clock +w 1`. -/
def opAdvance (s : State) : State := { s with clock := addW s.cfg.clockBits s.clock 1 }

/-- `ADVANCE` (R116). -/
def execAdvance (s : State) : Host.Outcome State Fault Refusal := inTurn .advance opAdvance s

end Sys2Proof.Machine
end

