-- ==== Sys2Proof/Machine/Dispatch.lean ====
section
/-! DEFINITION. One arm per operation (30_encoding.md R59). -/

namespace Sys2Proof.Machine

/-- What an operation does to the state. -/
def exec (i : Instr) (s : State) : Host.Outcome State Fault Refusal :=
  match i with
  | .nop => Sys2Proof.Machine.execNop s
  | .pinClk v => Sys2Proof.Machine.execPinClk v s
  | .pinDt v => Sys2Proof.Machine.execPinDt v s
  | .pinRst v => Sys2Proof.Machine.execPinRst v s
  | .pinBrk v => Sys2Proof.Machine.execPinBrk v s
  | .ovf => Sys2Proof.Machine.execOvf s
  | .render => Sys2Proof.Machine.execRender s
  | .mirror => Sys2Proof.Machine.execMirror s
  | .resync => Sys2Proof.Machine.execResync s
  | .advance => Sys2Proof.Machine.execAdvance s
  | .reset brk0 rst0 dt0 clk0 => Sys2Proof.Machine.execReset brk0 rst0 dt0 clk0 s

end Sys2Proof.Machine
end

