-- ==== Sys2Proof/WellFormed.lean ====
section
/-! DEFINITION. Well-formedness of operations, of a configuration and of a trace. -/

namespace Sys2Proof

open Sys2Proof.Machine (TPhase instrPhase)

/-- Every operation of the syntax is well formed: its operands are single bits used as they stand, with no range to
leave (R56 to R58). What can be ill formed is a word (Decode.lean), a trace and a configuration (below). -/
def Instr.wf : Instr → Bool
  | .nop => true
  | .pinClk _ => true
  | .pinDt _ => true
  | .pinRst _ => true
  | .pinBrk _ => true
  | .ovf => true
  | .render => true
  | .mirror => true
  | .resync => true
  | .advance => true
  | .reset _ _ _ _ => true

/-- A configuration the block can be built with. CLOCK_BITS ≥ 11 is the spec's (R7, R144; U9), as is a table with one
entry a step (R38) and an order that has every source once (R127). The other checks rule out values for which a rule has
no meaning: a remainder by 0, a sequence of no steps, a step of no ticks, a threshold of 0.
DESIGN CHOICE (log 15): safe, the model refuses. -/
def Config.wf (c : Config) : Bool :=
  decide (11 ≤ c.clockBits) &&
  decide (0 < c.periodBlink) && decide (0 < c.periodAllSub) && decide (0 < c.periodSos) &&
  decide (0 < c.seqSteps) && decide (c.testSeqLut.length = c.seqSteps) && decide (c.eventOrder.Perm allSources) &&
  decide (0 < c.seqStepTicks) && decide (0 < c.debugPresses) && decide (0 < c.rotThresh)

/-- Is every main-loop word of the trace in turn, when `p` is the phase at its start (R60, R117)? RESET brings the
phase back to RENDER (R135); no other operation reads or writes it. -/
def traceInTurn : TPhase → List Instr → Bool
  | _, [] => true
  | p, i :: rest =>
    match instrPhase i with
    | some q => decide (q = p) && traceInTurn p.next rest
    | none => traceInTurn (if i.isReset then .render else p) rest

/-- A well-formed trace from power-on: its first word is a RESET (U4, R137) and its main-loop words are in turn. -/
def tracePowerOn : List Instr → Bool
  | [] => true
  | i :: rest => i.isReset && traceInTurn .render rest

end Sys2Proof
end

