-- ==== Sys2Proof/Decode.lean ====
section
/-! DEFINITION. The event word: decoder, then encoder (30_encoding.md R55 to R60, R62). -/

namespace Sys2Proof

/-- Why a word spells no operation (R60). -/
inductive DecodeError where
  /-- `op` is 0110, 0111, 1100, 1101 or 1110. -/
  | reservedOpcode
  /-- A format-L word with `zero` ≠ 000 or a format-Z word with `zero` ≠ 0000. -/
  | nonzeroPad
  /-- There is no word to read. -/
  | noWord
deriving DecidableEq, Repr

/-- The field `op`, bits 7:4 (R55). -/
def opField (w : Byte) : BitVec 4 := w.extractLsb' 4 4

/-- Format L (R56): pad 3:1 must be 000, `v` is bit 0. -/
def formatL (w : Byte) (mk : Level → Instr) : Except DecodeError Instr :=
  if w.extractLsb' 1 3 = 0#3 then .ok (mk (w.getLsbD 0)) else .error .nonzeroPad

/-- Format Z (R57): pad 3:0 must be 0000. -/
def formatZ (w : Byte) (i : Instr) : Except DecodeError Instr :=
  if w.extractLsb' 0 4 = 0#4 then .ok i else .error .nonzeroPad

/-- Format R (R58): `brk0`, `rst0`, `dt0`, `clk0` are bits 3, 2, 1, 0. -/
def formatR (w : Byte) : Instr :=
  .reset (w.getLsbD 3) (w.getLsbD 2) (w.getLsbD 1) (w.getLsbD 0)

/-- The operation a word spells, or why it spells none: the opcode map (R59), total on all 256 words. -/
def decodeWord (w : Byte) : Except DecodeError Instr :=
  match (opField w).toNat with
  | 0 => formatZ w .nop
  | 1 => formatL w .pinClk
  | 2 => formatL w .pinDt
  | 3 => formatL w .pinRst
  | 4 => formatL w .pinBrk
  | 5 => formatZ w .ovf
  | 8 => formatZ w .render
  | 9 => formatZ w .mirror
  | 10 => formatZ w .resync
  | 11 => formatZ w .advance
  | 15 => .ok (formatR w)
  | _ => .error .reservedOpcode

/-- Decode the first operation of a stream of bytes; every operation is one byte (R55, R62). -/
def decode : List Byte → Except DecodeError (Instr × List Byte)
  | [] => .error .noWord
  | w :: rest =>
    match decodeWord w with
    | .ok i => .ok (i, rest)
    | .error e => .error e

/-- Decode a whole trace (R55): refused at its first word that spells no operation (R122). -/
def decodeTrace : List Byte → Except DecodeError (List Instr)
  | [] => .ok []
  | w :: rest =>
    match decodeWord w with
    | .error e => .error e
    | .ok i =>
      match decodeTrace rest with
      | .ok is => .ok (i :: is)
      | .error e => .error e

/-- The host's reading of a table row's word: one byte, bit 0 the least significant. -/
def decodeTableWord (nbits w : Nat) : Option Instr :=
  if nbits = 8 ∧ w < 256 then
    match decode [BitVec.ofNat 8 w] with
    | .ok (i, _) => some i
    | .error _ => none
  else none

/-- A format-L word (R56). -/
def wordL (op : BitVec 4) (v : Level) : Byte := op ++ 0#3 ++ BitVec.ofBool v

/-- A format-Z word (R57). -/
def wordZ (op : BitVec 4) : Byte := op ++ 0#4

/-- A format-R word (R58). -/
def wordR (op : BitVec 4) (brk0 rst0 dt0 clk0 : Level) : Byte :=
  op ++ BitVec.ofBool brk0 ++ BitVec.ofBool rst0 ++ BitVec.ofBool dt0 ++ BitVec.ofBool clk0

/-- The event word of an operation (R59). -/
def encode : Instr → Byte
  | .nop => wordZ 0b0000
  | .pinClk v => wordL 0b0001 v
  | .pinDt v => wordL 0b0010 v
  | .pinRst v => wordL 0b0011 v
  | .pinBrk v => wordL 0b0100 v
  | .ovf => wordZ 0b0101
  | .render => wordZ 0b1000
  | .mirror => wordZ 0b1001
  | .resync => wordZ 0b1010
  | .advance => wordZ 0b1011
  | .reset brk0 rst0 dt0 clk0 => wordR 0b1111 brk0 rst0 dt0 clk0

/-- One row of the opcode map (R59): its mnemonic, its match and its mask. -/
structure OpcodeRow where
  mnemonic : String
  word : Byte
  mask : Byte
deriving DecidableEq, Repr

/-- The opcode map as the spec prints it (R59). -/
def opcodeMap : List OpcodeRow :=
  [⟨"NOP", 0x00, 0xFF⟩, ⟨"PIN.CLK", 0x10, 0xFE⟩, ⟨"PIN.DT", 0x20, 0xFE⟩, ⟨"PIN.RST", 0x30, 0xFE⟩,
   ⟨"PIN.BRK", 0x40, 0xFE⟩, ⟨"OVF", 0x50, 0xFF⟩, ⟨"RENDER", 0x80, 0xFF⟩, ⟨"MIRROR", 0x90, 0xFF⟩,
   ⟨"RESYNC", 0xA0, 0xFF⟩, ⟨"ADVANCE", 0xB0, 0xFF⟩, ⟨"RESET", 0xF0, 0xF0⟩]

/-- Does a word match a row of the map? -/
def OpcodeRow.hits (r : OpcodeRow) (w : Byte) : Bool := w &&& r.mask == r.word

end Sys2Proof
end

