-- ==== Sys2Proof/Machine/Ports.lean ====
section
/-! DEFINITION. The ports of the block (20_memory.md R43): output pins (10_state.md R36), the timer-control lines
(42_hold_timer.md R80), and how the input ports become operations (40_debounce_edge_detector.md R65, R66;
60_exceptions.md R124, R126, R127). -/

namespace Sys2Proof.Machine

/-! ## Outputs -/

/-- The five lamp pins (R43). -/
structure LampPins where
  front : Level
  leftLight : Level
  rightLight : Level
  leftInd : Level
  rightInd : Level
deriving DecidableEq, Repr

/-- The level on the pin of a light (R36): LIGHT_ON_LEVEL when on, its complement when off. -/
def lightPin (c : Config) (on : Bool) : Level := if on then c.lightOnLevel else !c.lightOnLevel

/-- The level on the pin of an indicator (R36). -/
def indPin (c : Config) (on : Bool) : Level := if on then c.indOnLevel else !c.indOnLevel

/-- The lamp pins: a pure function of `out` and the polarity constants (R36). -/
def lampPins (s : State) : LampPins where
  front := lightPin s.cfg (s.out.getLsbD 0)
  leftLight := lightPin s.cfg (s.out.getLsbD 1)
  rightLight := lightPin s.cfg (s.out.getLsbD 2)
  leftInd := indPin s.cfg (s.out.getLsbD 3)
  rightInd := indPin s.cfg (s.out.getLsbD 4)

/-- `in[3:0]` = {in_brk, in_rst, in_dt, clkLevel} (R53). -/
def inVector (s : State) : BitVec 4 :=
  BitVec.ofBool s.inBrk ++ BitVec.ofBool s.inRst ++ BitVec.ofBool s.inDt ++ BitVec.ofBool s.clkLevel

/-- `tmr_run`: the countdown's run enable (R43, R80). -/
def tmrRun (s : State) : Bool := s.armed

/-- `tmr_clr`: does operation `i` in state `s` pulse the countdown's clear line? It does on every ARM and DISARM
(R43, R80, R85) and so on RESET, which clears and stops the countdown (R135). -/
def tmrClr (i : Instr) (s : State) : Bool :=
  match i with
  | .pinRst v => isEdge s.inRst v && gateOpen s
  | .ovf => ovfFires s
  | .resync => decide (s.tphase = .resync) && resyncDisarms s
  | .reset _ _ _ _ => true
  | .nop | .pinClk _ | .pinDt _ | .pinBrk _ | .render | .mirror | .advance => false

/-! ## Inputs -/

/-- The operation of a line at level `v`: none without an edge (R65, R66, R126). -/
def lineOp (reference v : Level) (mk : Level → Instr) : Option Instr :=
  if isEdge reference v then some (mk v) else none

/-- Is a main-loop micro-operation due? The strobe `tick` starts a tick, and a tick once started goes on through its
four micro-operations (R43, R117); between ADVANCE and the next strobe the main loop waits (R113). A strobe during a
tick starts no second one. DESIGN CHOICE (log 23): unsafe, the spec does not say what such a strobe does. -/
def mainLoopDue (s : State) (p : PortInputs) : Bool := p.tick || s.tphase != .render

/-- The operation that a source has at one instant: an overflow only while the timer runs (R124), a line only at an
edge, the main loop only while a micro-operation is due. -/
def sourceOp (s : State) (p : PortInputs) : EventSource → Option Instr
  | .ovf => if p.tmrOvf && s.armed then some .ovf else none
  | .rst => lineOp s.inRst p.lines.btn .pinRst
  | .brk => lineOp s.inBrk (brakeState s.cfg p.lines.brake) .pinBrk
  | .dt => lineOp s.inDt p.lines.encDt .pinDt
  | .clk => lineOp s.clkLevel p.lines.encClk .pinClk
  | .mainLoop => if mainLoopDue s p then some s.tphase.instr else none

/-- RESET with the live levels of the lines (R58, R135, R137 (4)). -/
def resetOp (c : Config) (l : Lines) : Instr := .reset (brakeState c l.brake) l.btn l.encDt l.encClk

/-- The operations of one instant: RESET while `rst_sys` is high, when no event is delivered (R137 (4), (5)); otherwise
those of the sources, in the order EVENT_ORDER (R127). -/
def portOps (s : State) (p : PortInputs) : List Instr :=
  if p.rstSys then [resetOp s.cfg p.lines] else s.cfg.eventOrder.filterMap (sourceOp s p)

/-- The instant in which the ports show the lines as the block last saw them, and no strobe. -/
def quiet (s : State) (tick : Bool) : PortInputs where
  lines :=
    { encClk := s.clkLevel, encDt := s.inDt, btn := s.inRst,
      brake := if s.inBrk then s.cfg.brakeHeldLevel else !s.cfg.brakeHeldLevel }
  tmrOvf := false
  tick := tick
  rstSys := false

/-- Events arrive at the block: their words join the end of the trace (log 1). -/
def arrive (ops : List Instr) (s : State) : State := { s with trace := s.trace ++ ops.map encode }

end Sys2Proof.Machine
end

