-- ==== Sys2Proof/Machine/Fetch.lean ====
section
/-! DEFINITION. Which operation happens next (20_memory.md R43; 60_exceptions.md R122, R123; 93_implementation_defined.md U1 to U4, U9). -/

namespace Sys2Proof.Machine

/-- The refusal of a word that spells no operation (R60). There is always a word when this is asked. -/
def wordRefusal (w : Byte) : DecodeError → Refusal
  | .reservedOpcode | .noWord => .reservedOpcode w
  | .nonzeroPad => .nonzeroPad w

/-- The first operation of an instant is performed at once, the words of the others wait; an instant with none passes as
a NOP (R71: "the passing of an instant with no event"). -/
def takeInstant (ops : List Instr) (s : State) : Instr × State :=
  match ops with
  | [] => (.nop, s)
  | i :: more => (i, { s with trace := more.map encode })

/-- The next operation: the next word of the trace, taken off it; with no word waiting, the first operation of what the
ports show next (R43). With no input at all nothing happens: no event comes and no strobe starts a tick.
DESIGN CHOICE (log 1, log 2: safe; log 23: unsafe for claims about instants). -/
def nextOp (s : State) : Except Refusal (Instr × State) :=
  match s.trace, s.ports with
  | w :: rest, _ =>
    match decodeWord w with
    | .ok i => .ok (i, { s with trace := rest })
    | .error e => .error (wordRefusal w e)
  | [], p :: later => .ok (takeInstant (portOps s p) { s with ports := later })
  | [], [] => .ok (.nop, s)

/-- The operation of this step, or why there is none: a configuration the block cannot have, a word that spells no
operation, an operation before the first RESET. DESIGN CHOICE on the order of the three tests (log 15): safe. -/
def fetch (s : State) : Except Refusal (Instr × State) :=
  if s.cfg.wf then
    match nextOp s with
    | .ok (i, s') => if s.resetDone || i.isReset then .ok (i, s') else .error .beforeReset
    | .error r => .error r
  else .error .badConfiguration

/-- The state in which `i` is the operation of the next step: its word waits first, a main-loop word is in turn
(its `tphase`), and a RESET has been performed (log 3). -/
def placeWord (w : Byte) (s : State) : State :=
  let queued := { s with trace := w :: s.trace, resetDone := true }
  match decodeWord w with
  | .ok i =>
    match instrPhase i with
    | some p => { queued with tphase := p }
    | none => queued
  | .error _ => queued

end Sys2Proof.Machine
end

