-- ==== Sys2Proof/Machine/Pseudo.lean ====
section
/-! DEFINITION. Traces as they are written: pseudo-operations, repetition, mnemonics (30_encoding.md R63, R64), and
the run of a sequence of operations (20_memory.md R45). -/

namespace Sys2Proof.Machine

/-- Perform operations one after the other, stopping at the first that does not answer a next state (R45). -/
def runOps : List Instr → State → Host.Outcome State Fault Refusal
  | [], s => .next s
  | i :: rest, s =>
    match exec i s with
    | .next s' => runOps rest s'
    | .fault r => .fault r
    | .refused r => .refused r

/-- Run the block from what its ports show, instant by instant (R43, R45). -/
def runPorts : List PortInputs → State → Host.Outcome State Fault Refusal
  | [], s => .next s
  | p :: later, s =>
    match runOps (portOps s p) s with
    | .next s' => runPorts later s'
    | .fault r => .fault r
    | .refused r => .refused r

/-- One whole main-loop tick (R64, R113). -/
def tickOps : List Instr := [.render, .mirror, .resync, .advance]

/-- A block of operations `n` times. -/
def timesOps (n : Nat) (ops : List Instr) : List Instr := (List.replicate n ops).flatten

/-- The pseudo-operations (R64). -/
inductive Pseudo where
  /-- `TICK`: one whole tick with no other agent in between. -/
  | tick
  /-- `PRESSBTN`: the button goes down. -/
  | pressBtn
  /-- `RELBTN`: the button comes up. -/
  | relBtn
  /-- `BRAKE.ON`: the brake becomes held. -/
  | brakeOn
  /-- `BRAKE.OFF`: the brake becomes released. -/
  | brakeOff
  /-- `WAIT n`: `n` ticks pass. -/
  | wait (n : Nat)
  /-- `HOLD n`: `n` hold-timer overflows. -/
  | hold (n : Nat)
  /-- `DETENT.R`: one detent that emits one RotateRight. -/
  | detentR
  /-- `DETENT.L`: one detent that emits one RotateLeft. -/
  | detentL
deriving DecidableEq, Repr

/-- The expansion of a pseudo-operation (R64). -/
def pseudoOps : Pseudo → List Instr
  | .tick => tickOps
  | .pressBtn => [.pinRst LOW]
  | .relBtn => [.pinRst HIGH]
  | .brakeOn => [.pinBrk HELD]
  | .brakeOff => [.pinBrk RELEASED]
  | .wait n => timesOps n tickOps
  | .hold n => timesOps n [.ovf]
  | .detentR => [.pinDt LOW, .pinClk LOW, .pinDt HIGH, .pinClk HIGH]
  | .detentL => [.pinClk LOW, .pinDt LOW, .pinClk HIGH, .pinDt HIGH]

/-- A written trace (R63): operations, pseudo-operations and repeated blocks, one after the other. -/
inductive Script where
  | done
  | op (i : Instr) (rest : Script)
  | pseudo (p : Pseudo) (rest : Script)
  | times (n : Nat) (body rest : Script)
deriving DecidableEq, Repr

/-- The operations a written trace stands for (R63, R64). -/
def scriptOps : Script → List Instr
  | .done => []
  | .op i rest => i :: scriptOps rest
  | .pseudo p rest => pseudoOps p ++ scriptOps rest
  | .times n body rest => timesOps n (scriptOps body) ++ scriptOps rest

/-- One bit as a number. -/
def bitNat (b : Level) : Nat := if b then 1 else 0

/-- The operand of a written operation as a number (R63): `v`, or RESET's four bits in `in` order (R53, R58). -/
def writtenOperand : Instr → Option Nat
  | .pinClk v | .pinDt v | .pinRst v | .pinBrk v => some (bitNat v)
  | .reset brk0 rst0 dt0 clk0 =>
    some (8 * bitNat brk0 + 4 * bitNat rst0 + 2 * bitNat dt0 + bitNat clk0)
  | .nop | .ovf | .render | .mirror | .resync | .advance => none

/-- Read an operation from its mnemonic and its operand (R63); `none` where the line spells no operation. -/
def readOp (mnemonic : String) (operand : Option Nat) : Option Instr :=
  match operand with
  | none =>
    [Instr.nop, .ovf, .render, .mirror, .resync, .advance].find? fun i => i.mnemonic == mnemonic
  | some n =>
    if mnemonic == "RESET" then
      if n < 16 then some (.reset (n.testBit 3) (n.testBit 2) (n.testBit 1) (n.testBit 0)) else none
    else if n < 2 then
      [Instr.pinClk (n == 1), .pinDt (n == 1), .pinRst (n == 1), .pinBrk (n == 1)].find? fun i =>
        i.mnemonic == mnemonic
    else none

end Sys2Proof.Machine
end

