-- ==== Sys2Proof/Safety.lean ====
section
/-! DEFINITION. What a state between two operations satisfies (10_state.md R33), and the configurations that hold
the source's literals (00_scope.md R7), in the terms the statements use. -/

namespace Sys2Proof.Machine

/-- The invariants of R33 for any configuration, the bounds of the W-bit registers (R17, R18), and the countdown's
one fact (R28 a). -/
structure Inv (s : State) : Prop where
  config : s.cfg.wf = true
  clockFits : s.clock < 2 ^ s.cfg.clockBits
  lastFits : s.lastResetTime < 2 ^ s.cfg.clockBits
  desyncLow : -(s.cfg.rotThresh : Int) < s.desync
  desyncHigh : s.desync < (s.cfg.rotThresh : Int)
  holdBound : s.holdCounter ≤ s.cfg.holdLimit
  stoppedCount : s.armed = false → s.holdCounter = 0
  dbgBound : s.dbgCount < s.cfg.debugPresses
  debugCount : s.mode = .debug → s.dbgCount = 0
  seqStepBound : s.seqStep < s.cfg.seqSteps
  seqTimerBound : s.seqTimer < s.cfg.seqStepTicks
  seqIdle : s.seqActive = false → s.seqStep = 0 ∧ s.seqTimer = 0
  cleared : s.tcntCleared = decide (s.holdCounter = 0)

/-- R33 as printed, for the source's literals (`mode`, `epat`, `dpos` and `tphase` are closed types). -/
structure StatedRanges (s : State) : Prop where
  desync : s.desync = -1 ∨ s.desync = 0 ∨ s.desync = 1
  hold : s.holdCounter ≤ 50
  stopped : s.armed = false → s.holdCounter = 0
  dbg : s.dbgCount ≤ 10
  debug : s.mode = .debug → s.dbgCount = 0
  dpos : s.dpos.val ≤ 10
  seqStep : s.seqStep ≤ 14
  seqTimer : s.seqTimer ≤ 59
  idle : s.seqActive = false → s.seqStep = 0 ∧ s.seqTimer = 0

/-- The configuration has the source's literals (R7's values with a source origin); the OPEN parameters are free. -/
structure SourceValues (c : Config) : Prop where
  debounceMin : c.debounceMin = 15
  debugWindow : c.debugWindow = 60
  debugPresses : c.debugPresses = 11
  holdLimit : c.holdLimit = 50
  rotThresh : c.rotThresh = 2
  periodBlink : c.periodBlink = 500
  periodAllSub : c.periodAllSub = 250
  periodSos : c.periodSos = 1700
  blinkWindows : c.blinkWindows = [(0, 250)]
  pulseWindows : c.pulseWindows = [(0, 100), (150, 250)]
  sosWindows : c.sosWindows =
    [(0, 100), (200, 300), (400, 500), (700, 900), (1000, 1200), (1300, 1500)]
  seqSteps : c.seqSteps = 15
  seqStepTicks : c.seqStepTicks = 60
  rstPressedLevel : c.rstPressedLevel = LOW
  lightOnLevel : c.lightOnLevel = LOW

/-- The press that promotes to Debug (R89): the brake held, not in Debug, within the window, and the count would
exceed DEBUG_PRESSES - 1. -/
abbrev promotes (s : State) : Prop :=
  s.inBrk = HELD ∧ s.mode ≠ .debug ∧ qualifies s = true ∧ s.cfg.debugPresses ≤ s.dbgCount + 1

/-- An accepted "pressed" edge of the reset pin (R68, R88). -/
abbrev acceptedPress (i : Instr) (s : State) : Prop :=
  i = .pinRst s.cfg.rstPressedLevel ∧ s.inRst ≠ s.cfg.rstPressedLevel ∧ gateOpen s = true

/-- The agreement count that PIN.CLK v reaches before its test (R74). -/
def countAfter (s : State) (v : Level) : Int := if v = s.inDt then s.desync + 1 else s.desync - 1

/-- A safe run: every operation of the trace answers a next state and the invariants hold at its end. -/
def SafeRun (ops : List Instr) (s : State) : Prop :=
  ∃ t, runOps ops s = .next t ∧ Inv t

end Sys2Proof.Machine
end

