-- ==== Sys2Proof/Certificates/Slice0/Obligations.lean ====
section
/-! DEFINITION. The statements for the provers. Where a statement rests on the model's own choice its docstring says
so and names the log entry. The block has no memory, so a frame speaks of registers only (20_memory.md R37). -/

open Sys2Proof Sys2Proof.Machine

/-! ## Encoding -/

/-- Decoding an encoded trace gives it back, and a trace of words that decodes is the encoding of its operations
(R55 to R59). -/
def Obligations.TraceDecodeEncodeAgree : Prop :=
  (∀ ops : List Instr, (∀ i ∈ ops, i.wf = true) → decodeTrace (ops.map encode) = .ok ops) ∧
  (∀ (ws : List Byte) (ops : List Instr), decodeTrace ws = .ok ops → ws = ops.map encode)

/-- The decoder follows the opcode map of R59 row by row, operand bits included (R56, R58); a word that no row matches
decodes to nothing. -/
def Obligations.DecoderFollowsTheOpcodeMap : Prop :=
  (∀ (w : Byte) (r : OpcodeRow), r ∈ opcodeMap →
    (w &&& r.mask = r.word ↔ ∃ i, decodeWord w = .ok i ∧ i.mnemonic = r.mnemonic)) ∧
  (∀ w : Byte, (∀ r ∈ opcodeMap, w &&& r.mask ≠ r.word) ↔ ∃ e, decodeWord w = .error e) ∧
  (∀ (w : Byte) (v : Level),
    (decodeWord w = .ok (.pinClk v) ∨ decodeWord w = .ok (.pinDt v) ∨
      decodeWord w = .ok (.pinRst v) ∨ decodeWord w = .ok (.pinBrk v)) → v = w.getLsbD 0) ∧
  (∀ (w : Byte) (brk0 rst0 dt0 clk0 : Level), decodeWord w = .ok (.reset brk0 rst0 dt0 clk0) →
    brk0 = w.getLsbD 3 ∧ rst0 = w.getLsbD 2 ∧ dt0 = w.getLsbD 1 ∧ clk0 = w.getLsbD 0)

/-- A few words written out from R59 decode to the operations they stand for. -/
def Obligations.StatedWordsDecode : Prop :=
  decodeWord 0b00000000 = .ok .nop ∧
  decodeWord 0b00010001 = .ok (.pinClk HIGH) ∧
  decodeWord 0b00110000 = .ok (.pinRst LOW) ∧
  decodeWord 0b01010000 = .ok .ovf ∧
  decodeWord 0b10010000 = .ok .mirror ∧
  decodeWord 0b11110111 = .ok (.reset RELEASED HIGH HIGH HIGH) ∧
  decodeWord 0b01100000 = .error .reservedOpcode ∧
  decodeWord 0b00010010 = .error .nonzeroPad

/-- R60: what a step does with a word that is reserved or out of turn, and with an OVF word while the timer is stopped.
The form of the refusal is the model's (the rule says "refuses"). -/
def Obligations.ReservedAndOutOfTurnWordsAreRefused : Prop :=
  ∀ (s : State) (w : Byte) (rest : List Byte),
    s.cfg.wf = true → s.resetDone = true → s.trace = w :: rest →
    ((w >>> 4 = 0b0110#8 ∨ w >>> 4 = 0b0111#8 ∨ w >>> 4 = 0b1100#8 ∨ w >>> 4 = 0b1101#8 ∨ w >>> 4 = 0b1110#8) →
      step s = .refused (.reservedOpcode w)) ∧
    ((w >>> 4 = 0b0001#8 ∨ w >>> 4 = 0b0010#8 ∨ w >>> 4 = 0b0011#8 ∨ w >>> 4 = 0b0100#8) →
      w &&& 0b00001110#8 ≠ 0#8 → step s = .refused (.nonzeroPad w)) ∧
    ((w >>> 4 = 0b0000#8 ∨ w >>> 4 = 0b0101#8 ∨ w >>> 4 = 0b1000#8 ∨ w >>> 4 = 0b1001#8 ∨ w >>> 4 = 0b1010#8 ∨
        w >>> 4 = 0b1011#8) →
      w &&& 0b00001111#8 ≠ 0#8 → step s = .refused (.nonzeroPad w)) ∧
    (w = 0x80#8 → s.tphase ≠ .render → step s = .refused (.outOfTurn .render s.tphase)) ∧
    (w = 0x90#8 → s.tphase ≠ .mirror → step s = .refused (.outOfTurn .mirror s.tphase)) ∧
    (w = 0xA0#8 → s.tphase ≠ .resync → step s = .refused (.outOfTurn .resync s.tphase)) ∧
    (w = 0xB0#8 → s.tphase ≠ .advance → step s = .refused (.outOfTurn .advance s.tphase)) ∧
    (w = 0x50#8 → s.armed = false → step s = .next { s with trace := rest })

/-- The printed numbers of the enumerated registers (R49 to R51, R54) and R61's advice for encodings no operation
makes. -/
def Obligations.RegisterEncodings : Prop :=
  (Mode.code .off = 0 ∧ Mode.code .left = 1 ∧ Mode.code .right = 2 ∧ Mode.code .emergency = 3 ∧
    Mode.code .debug = 4) ∧
  (EPat.code .hazard = 0 ∧ EPat.code .pulse = 1 ∧ EPat.code .all = 2 ∧ EPat.code .sos = 3) ∧
  (TPhase.code .render = 0 ∧ TPhase.code .mirror = 1 ∧ TPhase.code .resync = 2 ∧ TPhase.code .advance = 3) ∧
  (∀ m : Mode, Mode.ofCode m.code = m) ∧
  (∀ b : BitVec 3, 5 ≤ b.toNat → Mode.ofCode b = .off) ∧
  (∀ d : Fin nDebugPos, (dposCode d).toNat = d.val ∧ dposOfCode (dposCode d) = d) ∧
  (∀ b : BitVec 4, 11 ≤ b.toNat → dposOfCode b = 0) ∧
  (∀ e : EPat, e.next.code = e.code + 1) ∧
  (∀ p : TPhase, p.next.code = p.code + 1)

/-- The written form of an operation reads back (R63; the operand is written as a number). -/
def Obligations.WrittenFormReadsBack : Prop :=
  ∀ i : Instr, readOp i.mnemonic (writtenOperand i) = some i

/-! ## The step -/

/-- When the next word of the trace spells an operation, the step is that operation on the state with the word taken
off; with no word waiting and an instant at the ports, the step is the first operation of that instant, and the words of
the others wait (R43, R45, R127). That the state holds its inputs is the model's (log 1, log 23). -/
def Obligations.StepRunsTheNextOperationOfTheTrace : Prop :=
  (∀ (s : State) (w : Byte) (rest : List Byte) (i : Instr),
    s.cfg.wf = true → (s.resetDone = true ∨ i.isReset = true) → s.trace = w :: rest → decodeWord w = .ok i →
    step s = exec i { s with trace := rest }) ∧
  (∀ (s : State) (p : PortInputs) (later : List PortInputs) (i : Instr) (more : List Instr),
    s.cfg.wf = true → (s.resetDone = true ∨ p.rstSys = true) → s.trace = [] → s.ports = p :: later →
    portOps s p = i :: more →
    step s = exec i { s with trace := more.map encode, ports := later })

/-- With no word waiting, the main loop moves as its ports say (R43, R113, R117): at an instant with no event in which a
tick has begun or begins, the step is the micro-operation `tphase` names, which completes; between ADVANCE and the next
strobe nothing happens, and nothing happens without any input. One micro-operation an instant is the model's (log 23),
as is the step with no input (log 2). -/
def Obligations.StepWithoutEventRunsTheMainLoop : Prop :=
  ∀ (s : State) (tick : Bool) (later : List PortInputs), s.cfg.wf = true → s.resetDone = true → s.trace = [] →
    (s.ports = quiet s tick :: later → (tick = true ∨ s.tphase ≠ .render) →
      step s = exec s.tphase.instr { s with ports := later } ∧
      ∃ t, step s = .next t ∧ t.tphase = s.tphase.next ∧ t.trace = [] ∧ t.ports = later) ∧
    (s.ports = quiet s tick :: later → tick = false → s.tphase = .render → step s = .next { s with ports := later }) ∧
    (s.ports = [] → step s = .next s)

/-- No operation but RESET before the first RESET, and no step of the main loop either (U4), and none at all with fewer
than 11 clock bits, whatever waits (U9). The flag and the refusals are the model's (log 14, log 15). -/
def Obligations.StepRefusesBeforeResetAndBadConfiguration : Prop :=
  (∀ (s : State) (w : Byte) (rest : List Byte) (i : Instr),
    s.cfg.wf = true → s.resetDone = false → s.trace = w :: rest → decodeWord w = .ok i →
    (i.isReset = false → step s = .refused .beforeReset) ∧
    (i.isReset = true → ∃ t, step s = .next t ∧ t.resetDone = true)) ∧
  (∀ s : State, s.cfg.wf = true → s.resetDone = false → s.trace = [] →
    (s.ports = [] → step s = .refused .beforeReset) ∧
    (∀ (p : PortInputs) (later : List PortInputs), s.ports = p :: later →
      (p.rstSys = false → step s = .refused .beforeReset) ∧
      (p.rstSys = true → ∃ t, step s = .next t ∧ t.resetDone = true ∧ t.ports = later))) ∧
  (∀ s : State, s.cfg.clockBits < 11 → step s = .refused .badConfiguration)

/-- `withFetchWord` makes the very next step run the word's operation, in turn (log 3). -/
def Obligations.PlacedWordRunsNext : Prop :=
  ∀ (s : State) (i : Instr), s.cfg.wf = true →
    step (s.withFetchWord 8 (encode i).toNat) =
      exec i { s with resetDone := true, tphase := (instrPhase i).getD s.tphase }

/-! ## Pin operations and the gate -/

/-- NOP changes nothing (R71). -/
def Obligations.NopChangesNothing : Prop := ∀ s : State, exec .nop s = .next s

/-- Every PIN operation completes, stores its operand in its edge reference, and changes nothing when there is no edge;
an edge is a falling one or a rising one (R66). -/
def Obligations.PinOperationsStoreTheirLevel : Prop :=
  ∀ (s : State) (v : Level),
    (∃ t, exec (.pinClk v) s = .next t ∧ t.clkLevel = v ∧ (v = s.clkLevel → t = s)) ∧
    (∃ t, exec (.pinDt v) s = .next t ∧ t.inDt = v ∧ (v = s.inDt → t = s)) ∧
    (∃ t, exec (.pinRst v) s = .next t ∧ t.inRst = v ∧ (v = s.inRst → t = s)) ∧
    (∃ t, exec (.pinBrk v) s = .next t ∧ t.inBrk = v ∧ (v = s.inBrk → t = s)) ∧
    (∀ r : Level, (isEdge r v = true ↔ v ≠ r) ∧ (fallingEdge r v = true ↔ r = true ∧ v = false) ∧
      (risingEdge r v = true ↔ r = false ∧ v = true))

/-- PIN.DT stores its operand and nothing else (R70). -/
def Obligations.PinDtResult : Prop :=
  ∀ (s : State) (v : Level), exec (.pinDt v) s = .next { s with inDt := v }

/-- PIN.BRK: the sample follows every edge, a release edge clears the count (R69). -/
def Obligations.PinBrkResult : Prop :=
  ∀ (s : State) (v : Level),
    exec (.pinBrk v) s = .next
      { s with inBrk := v, dbgCount := if s.inBrk = HELD ∧ v = RELEASED then 0 else s.dbgCount }

/-- `accept` on W-bit values is the wrap-tolerant comparison with its escape (R67); hence it is false exactly from
`last` to `last + min` (R72). -/
def Obligations.AcceptIsTheStatedComparison : Prop :=
  ∀ (w : Nat) (cur last : BitVec w) (min : Nat),
    (accept w cur.toNat last.toNat min = true ↔ min < (cur - last).toNat ∨ cur.toNat < last.toNat) ∧
    (accept w cur.toNat last.toNat min = false ↔ last.toNat ≤ cur.toNat ∧ cur.toNat ≤ last.toNat + min)

/-- PIN.RST: nothing without an edge; the edge reference moves on every edge; a rejected edge changes nothing else, it
is lost; an accepted one is a PRESS when the new level is LOW and a RELEASE otherwise (R68). -/
def Obligations.PinRstResult : Prop :=
  ∀ (s : State) (v : Level), s.cfg.rstPressedLevel = LOW →
    exec (.pinRst v) s = .next
      (if v = s.inRst then s
      else if accept s.cfg.clockBits s.clock s.lastResetTime s.cfg.debounceMin = false then { s with inRst := v }
      else if v = LOW then opPress { s with inRst := v }
      else opRelease { s with inRst := v })

/-- An accepted "pressed" edge, promoting or not: PRESS with DBGENTRY, SEQSTART and ARM in place (R81, R88, R89, R91).
-/
def Obligations.PressResult : Prop :=
  ∀ (s : State) (image : Lamps), s.cfg.rstPressedLevel = LOW → s.cfg.debugPresses = 11 →
    s.cfg.testSeqLut[0]? = some image → s.inRst = HIGH → gateOpen s = true →
    exec (.pinRst LOW) s = .next
      (if s.inBrk = HELD ∧ s.mode ≠ .debug ∧ qualifies s = true ∧ 10 < s.dbgCount + 1 then
        { s with
          inRst := LOW, lastResetTime := s.clock, mode := .debug, dbgCount := 0,
          seqActive := true, seqStep := 0, seqTimer := 0, out := image,
          armed := true, holdCounter := 0, tcntCleared := true }
      else
        { s with
          inRst := LOW, lastResetTime := s.clock,
          mode := if s.mode = .emergency ∨ s.mode = .debug then s.mode else .off,
          clock := if s.mode = .emergency then 0 else s.clock,
          epat := if s.mode = .emergency then s.epat.next else s.epat,
          dbgCount :=
            if s.inBrk = RELEASED then 0 else if s.mode = .debug then s.dbgCount
            else if qualifies s = true then s.dbgCount + 1 else 0,
          armed := true, holdCounter := 0, tcntCleared := true })

/-- A press is within the debug-entry window when at most DEBUG_WINDOW ticks lie between the last accepted edge and
now, or the clock is below it (R89). -/
def Obligations.DebugWindowIsTheStatedComparison : Prop :=
  ∀ s : State, s.clock < 2 ^ s.cfg.clockBits → s.lastResetTime < 2 ^ s.cfg.clockBits →
    (qualifies s = true ↔ s.clock < s.lastResetTime ∨ s.clock ≤ s.lastResetTime + s.cfg.debugWindow)

/-- An accepted "released" edge (R82, R90). -/
def Obligations.ReleaseResult : Prop :=
  ∀ s : State, s.cfg.rstPressedLevel = LOW → s.inRst = LOW → gateOpen s = true →
    exec (.pinRst HIGH) s = .next
      { s with inRst := HIGH, lastResetTime := s.clock, armed := false, holdCounter := 0, tcntCleared := true }

/-- Hazard R139: in Emergency mode with the brake released, a bouncing press (down, up, down with no tick between)
ends with the button down and the timer stopped. -/
def Obligations.BouncingPressStopsTheHoldTimer : Prop :=
  ∀ s : State, s.cfg.rstPressedLevel = LOW → s.mode = .emergency → s.inBrk = RELEASED → s.inRst = HIGH →
    gateOpen s = true → 0 < s.clock →
    runOps [.pinRst LOW, .pinRst HIGH, .pinRst LOW] s = .next
      { s with
        inRst := LOW, clock := 0, lastResetTime := 0, epat := s.epat.next, dbgCount := 0,
        armed := false, holdCounter := 0, tcntCleared := true }

/-! ## Quadrature decoder -/

/-- PIN.CLK with the rotation events in place (R74 to R77). -/
def Obligations.PinClkResult : Prop :=
  ∀ (s : State) (v : Level), s.cfg.rotThresh = 2 →
    exec (.pinClk v) s = .next
      (if v = s.clkLevel then s
      else if s.mode = .emergency then { s with clkLevel := v }
      else if countAfter s v < -1 then
        { s with
          clkLevel := v, desync := 0, clock := 0,
          mode := if s.mode = .debug then .debug else .left,
          dpos := if s.mode = .debug then s.dpos - 1 else s.dpos }
      else if 1 < countAfter s v then
        { s with
          clkLevel := v, desync := 0, clock := 0,
          mode := if s.mode = .debug then .debug else .right,
          dpos := if s.mode = .debug then s.dpos + 1 else s.dpos }
      else { s with clkLevel := v, desync := countAfter s v })

/-- One clean detent emits exactly one rotation event (R64, R78 d). -/
def Obligations.DetentEmitsOneRotation : Prop :=
  ∀ s : State, s.cfg.rotThresh = 2 → s.clkLevel = HIGH → s.inDt = HIGH → s.desync = 0 → s.mode ≠ .emergency →
    runOps (pseudoOps .detentR) s = .next
      { s with
        clock := 0, mode := if s.mode = .debug then .debug else .right,
        dpos := if s.mode = .debug then s.dpos + 1 else s.dpos } ∧
    runOps (pseudoOps .detentL) s = .next
      { s with
        clock := 0, mode := if s.mode = .debug then .debug else .left,
        dpos := if s.mode = .debug then s.dpos - 1 else s.dpos }

/-- An isolated CLK glitch from rest leaves the state as it was, in every mode (R78 b). -/
def Obligations.IsolatedGlitchCancels : Prop :=
  ∀ (s : State) (v : Level), s.cfg.rotThresh = 2 → v ≠ s.clkLevel → s.desync = 0 →
    runOps [.pinClk v, .pinClk s.clkLevel] s = .next s

/-- In Emergency mode no sequence of encoder events changes anything but the two encoder samples (R77). -/
def Obligations.EmergencyIgnoresTheEncoder : Prop :=
  ∀ (ops : List Instr) (s : State), s.mode = .emergency →
    (∀ i ∈ ops, i.mnemonic = "PIN.CLK" ∨ i.mnemonic = "PIN.DT") →
    ∃ clk dt : Level, runOps ops s = .next { s with clkLevel := clk, inDt := dt }

/-- Eleven right detents in Debug mode return `dpos` to where it was (R95). -/
def Obligations.ElevenDetentsReturnThePosition : Prop :=
  ∀ s : State, s.cfg.rotThresh = 2 → s.clkLevel = HIGH → s.inDt = HIGH → s.desync = 0 → s.mode = .debug →
    runOps (timesOps 11 (pseudoOps .detentR)) s = .next { s with clock := 0 }

/-! ## Hold timer -/

/-- OVF with DISARM and LONGPRESS in place (R82 to R84). -/
def Obligations.OvfResult : Prop :=
  ∀ s : State,
    exec .ovf s = .next
      (if s.armed = false then s
      else if s.cfg.holdLimit < s.holdCounter + 1 then
        { s with
          armed := false, holdCounter := 0, tcntCleared := true,
          mode := if s.mode = .emergency ∨ s.mode = .debug then .off else .emergency }
      else { s with holdCounter := s.holdCounter + 1, tcntCleared := false })

/-- After an ARM the long press fires at overflow HOLD_LIMIT + 1 and at no earlier one, and one hold gives one long
press however many overflows follow (R83, R86). -/
def Obligations.LongPressFiresOncePerHold : Prop :=
  ∀ (n : Nat) (s : State), s.armed = true → s.holdCounter = 0 →
    runOps (List.replicate (n + 1) .ovf) s = .next
      (if n + 1 ≤ s.cfg.holdLimit then { s with holdCounter := n + 1, tcntCleared := false }
      else
        { s with
          armed := false, holdCounter := 0, tcntCleared := true,
          mode := if s.mode = .emergency ∨ s.mode = .debug then .off else .emergency })

/-! ## Pattern generator and the tick -/

/-- RENDER: during the test sequence SEQSTEP; else the masked lamps are driven and the others keep their value; in both
cases `tphase` goes on to MIRROR (R101). -/
def Obligations.RenderResult : Prop :=
  ∀ s : State, s.tphase = .render →
    (s.seqActive = true → exec .render s = .next { opSeqStep s with tphase := .mirror }) ∧
    (s.seqActive = false →
      ∃ t, exec .render s = .next t ∧ t = { s with out := t.out, tphase := .mirror } ∧
        ∀ k : Nat, k < 5 → t.out.getLsbD k =
          if (pg s.cfg s.mode s.epat s.dpos s.clock).1.getLsbD k = true
          then (pg s.cfg s.mode s.epat s.dpos s.clock).2.getLsbD k
          else s.out.getLsbD k)

/-- RENDER during the test sequence: SEQSTEP in place, for the source's number of steps (R92). -/
def Obligations.RenderStepsTheTestSequence : Prop :=
  ∀ (s : State) (image : Lamps), s.tphase = .render → s.seqActive = true → s.cfg.seqSteps = 15 →
    s.cfg.testSeqLut[s.seqStep]? = some image →
    exec .render s = .next
      (if s.seqTimer + 1 ≠ s.cfg.seqStepTicks then
        { s with out := image, seqTimer := s.seqTimer + 1, tphase := .mirror }
      else if s.seqStep = 14 then
        { s with out := image, seqTimer := 0, seqActive := false, seqStep := 0, tphase := .mirror }
      else
        { s with out := image, seqTimer := 0, seqStep := s.seqStep + 1, tphase := .mirror })

/-- PG in Off, Left, Right and Emergency/Hazard with the source's period and window (R102 to R105). -/
def Obligations.BlinkPatterns : Prop :=
  ∀ (c : Config) (e : EPat) (d : Fin nDebugPos) (clock : Nat),
    c.periodBlink = 500 → c.blinkWindows = [(0, 250)] →
    pg c .off e d clock = (0b11110, 0b00000) ∧
    pg c .left e d clock =
      (0b11110, if 0 < clock % 500 ∧ clock % 500 ≤ 250 then 0x0A else 0x00) ∧
    pg c .right e d clock =
      (0b11110, if 0 < clock % 500 ∧ clock % 500 ≤ 250 then 0x14 else 0x00) ∧
    pg c .emergency .hazard d clock =
      (0b11110, if 0 < clock % 500 ∧ clock % 500 ≤ 250 then 0x1E else 0x00)

/-- PG in Emergency/Pulse with the source's period and windows (R106). -/
def Obligations.PulsePattern : Prop :=
  ∀ (c : Config) (d : Fin nDebugPos) (clock : Nat),
    c.periodBlink = 500 → c.pulseWindows = [(0, 100), (150, 250)] →
    pg c .emergency .pulse d clock =
      (0b11110,
        if 0 < clock % 500 ∧ clock % 500 ≤ 100 ∨ 150 < clock % 500 ∧ clock % 500 ≤ 250 then 0x1E else 0x00)

/-- PG in Emergency/All with the source's periods and windows (R107). -/
def Obligations.AllPattern : Prop :=
  ∀ (c : Config) (d : Fin nDebugPos) (clock : Nat),
    c.periodBlink = 500 → c.periodAllSub = 250 → c.pulseWindows = [(0, 100), (150, 250)] →
    pg c .emergency .all d clock =
      (0b11111,
        if 0 < clock % 250 ∧ clock % 250 ≤ 100 ∨ 150 < clock % 250 then
          if clock % 500 < 250 then 0x0B else 0x15
        else 0x00)

/-- PG in Emergency/Sos with the source's period and windows (R108). -/
def Obligations.SosPattern : Prop :=
  ∀ (c : Config) (d : Fin nDebugPos) (clock p : Nat),
    c.periodSos = 1700 →
    c.sosWindows = [(0, 100), (200, 300), (400, 500), (700, 900), (1000, 1200), (1300, 1500)] →
    p = clock % 1700 →
    pg c .emergency .sos d clock =
      (0b11110,
        if 0 < p ∧ p ≤ 100 ∨ 200 < p ∧ p ≤ 300 ∨ 400 < p ∧ p ≤ 500 ∨ 700 < p ∧ p ≤ 900 ∨
          1000 < p ∧ p ≤ 1200 ∨ 1300 < p ∧ p ≤ 1500 then 0x1E else 0x00)

/-- PG in Debug mode is the table entry of the position on all five lamps, whatever the clock, and outside the test
sequence RENDER shows it (R109). -/
def Obligations.DebugModeShowsTheTable : Prop :=
  (∀ (c : Config) (e : EPat) (d : Fin nDebugPos) (clock : Nat),
    pg c .debug e d clock = (0b11111, c.debugLut.get d)) ∧
  (∀ s : State, s.tphase = .render → s.seqActive = false → s.mode = .debug →
    exec .render s = .next { s with out := s.cfg.debugLut.get s.dpos, tphase := .mirror })

/-- Outside Debug mode, whatever the sub-mode, a pattern restarted by `clock ← 0` begins dark (R112 b). -/
def Obligations.PatternsAreDarkAtPhaseZero : Prop :=
  ∀ (c : Config) (m : Mode) (e : EPat) (d : Fin nDebugPos), SourceValues c → m ≠ .debug →
    (pg c m e d 0).2 = 0b00000

/-- Rendering an unchanged state again writes the same `out` (R101 c, R112 a). -/
def Obligations.RenderIsIdempotent : Prop :=
  ∀ s t : State, s.seqActive = false → exec .render s = .next t →
    exec .render { t with tphase := .render } = .next t

/-- What RENDER shows depends only on the registers R34 lists as read by it and on the prior `out`, whose lamps outside
the mask it keeps (R101, R112 a): never on `lastResetTime`, `desync`, the hold timer, `dbgCount` or the inputs
(R112 d). -/
def Obligations.RenderReadsOnlyItsRegisters : Prop :=
  ∀ s s' t : State, s'.cfg = s.cfg → s'.mode = s.mode → s'.epat = s.epat → s'.dpos = s.dpos →
    s'.clock = s.clock → s'.out = s.out → s'.seqActive = s.seqActive → s'.seqStep = s.seqStep →
    s'.seqTimer = s.seqTimer → s'.tphase = s.tphase → exec .render s = .next t →
    ∃ t', exec .render s' = .next t' ∧ t'.out = t.out ∧ t'.seqActive = t.seqActive ∧
      t'.seqStep = t.seqStep ∧ t'.seqTimer = t.seqTimer ∧ t'.tphase = t.tphase

/-- MIRROR: outside Debug mode and the test sequence the front light is on iff the brake is held; the other lamps and
everything else stay (R114). -/
def Obligations.MirrorResult : Prop :=
  ∀ s : State, s.tphase = .mirror →
    ∃ t, exec .mirror s = .next t ∧ t = { s with out := t.out, tphase := .resync } ∧
      (∀ k : Nat, k ≠ 0 → t.out.getLsbD k = s.out.getLsbD k) ∧
      t.out.getLsbD 0 = if s.mode ≠ .debug ∧ s.seqActive = false then s.inBrk else s.out.getLsbD 0

/-- RESYNC with RESYNC_GATE = outside: disarms when the raw pin reads released and the gate passes (R115). -/
def Obligations.ResyncResult : Prop :=
  ∀ s : State, s.tphase = .resync → s.cfg.resyncGate = .outside → s.cfg.rstPressedLevel = LOW →
    exec .resync s = .next
      (if s.inRst = HIGH ∧
          accept s.cfg.clockBits s.clock s.lastResetTime s.cfg.debounceMin = true then
        { s with armed := false, holdCounter := 0, tcntCleared := true, tphase := .advance }
      else { s with tphase := .advance })

/-- RESYNC with the other reading of its gate, RESYNC_GATE = inside: it disarms when the gate fails. The reading as the
gate's negation is the model's (log 21). -/
def Obligations.ResyncInsideReading : Prop :=
  ∀ s : State, s.tphase = .resync → s.cfg.resyncGate = .inside →
    exec .resync s = .next
      (if s.inRst ≠ s.cfg.rstPressedLevel ∧
          accept s.cfg.clockBits s.clock s.lastResetTime s.cfg.debounceMin = false then
        { s with armed := false, holdCounter := 0, tcntCleared := true, tphase := .advance }
      else { s with tphase := .advance })

/-- ADVANCE: `clock` plus one modulo 2^W, the last value wrapping to 0 (R116). -/
def Obligations.AdvanceResult : Prop :=
  ∀ s : State, s.tphase = .advance → s.clock < 2 ^ s.cfg.clockBits →
    exec .advance s = .next
      { s with
        clock := if s.clock + 1 = 2 ^ s.cfg.clockBits then 0 else s.clock + 1,
        tphase := .render }

/-- `tphase`: a main-loop word out of turn is refused, one in turn completes and names the next; no event operation
writes it, and RESET sets it to RENDER (R117). -/
def Obligations.TphaseSequencing : Prop :=
  ∀ (i : Instr) (s : State),
    (∀ p, instrPhase i = some p → s.tphase ≠ p → exec i s = .refused (.outOfTurn p s.tphase)) ∧
    (∀ p, instrPhase i = some p → s.tphase = p → ∃ t, exec i s = .next t ∧ t.tphase = p.next) ∧
    (instrPhase i = none → ∃ t, exec i s = .next t ∧
      t.tphase = if i.isReset then .render else s.tphase)

/-- The net effect of an uninterrupted TICK (R118). -/
def Obligations.TickNetEffect : Prop :=
  ∀ s s1 : State, s.tphase = .render → s.cfg.resyncGate = .outside → s.cfg.rstPressedLevel = LOW →
    s.cfg.debounceMin = 15 →
    s1 = (if s.seqActive = true then opSeqStep s
      else
        { s with
          out := (s.out &&& ~~~(pg s.cfg s.mode s.epat s.dpos s.clock).1) |||
            (pg s.cfg s.mode s.epat s.dpos s.clock).2 }) →
    runOps tickOps s = .next
      { s1 with
        out :=
          if s.mode ≠ .debug ∧ s1.seqActive = false then
            (s1.out &&& 0b11110#5) ||| (BitVec.ofBool s.inBrk).setWidth 5
          else s1.out,
        armed :=
          if s.inRst = HIGH ∧ accept s.cfg.clockBits s.clock s.lastResetTime 15 = true then false else s.armed,
        holdCounter :=
          if s.inRst = HIGH ∧ accept s.cfg.clockBits s.clock s.lastResetTime 15 = true then 0
          else s.holdCounter,
        tcntCleared :=
          if s.inRst = HIGH ∧ accept s.cfg.clockBits s.clock s.lastResetTime 15 = true then true
          else s.tcntCleared,
        clock := (s.clock + 1) % 2 ^ s.cfg.clockBits }

/-- At the end of every tick outside Debug mode and the test sequence the front light shows the brake and nothing
else, the All pattern included (R114 a, R142). -/
def Obligations.FrontLightShowsTheBrakeAfterATick : Prop :=
  ∀ s : State, s.tphase = .render →
    ∃ t, runOps tickOps s = .next t ∧
      (t.mode ≠ .debug → t.seqActive = false → t.out.getLsbD 0 = s.inBrk)

/-- The whole test sequence: `n` ticks after its start it shows step `(n - 1) / 60`, it ends with tick 900, and the
clock counts all along (R92). -/
def Obligations.TestSequenceTakesNineHundredTicks : Prop :=
  ∀ (s : State) (n : Nat), s.cfg.seqSteps = 15 → s.cfg.seqStepTicks = 60 → s.tphase = .render →
    s.seqActive = true → s.seqStep = 0 → s.seqTimer = 0 → n ≤ 900 →
    ∃ t, runOps (timesOps n tickOps) s = .next t ∧ t.tphase = .render ∧
      (n < 900 → t.seqActive = true ∧ t.seqStep = n / 60 ∧ t.seqTimer = n % 60) ∧
      (n = 900 → t.seqActive = false ∧ t.seqStep = 0 ∧ t.seqTimer = 0) ∧
      (∀ image : Lamps, 0 < n → s.cfg.testSeqLut[(n - 1) / 60]? = some image → (n < 900 ∨ s.mode = .debug) →
        t.out = image) ∧
      t.clock % 2 ^ s.cfg.clockBits = (s.clock + n) % 2 ^ s.cfg.clockBits

/-! ## Reset and ports -/

/-- RESET gives every register its value of R35, whatever it held (R135). That the configuration, the events still to
come and the power-on flag are as said here is the model's (log 4, log 14, log 20). -/
def Obligations.ResetResult : Prop :=
  ∀ (s : State) (brk0 rst0 dt0 clk0 : Level),
    exec (.reset brk0 rst0 dt0 clk0) s = .next
      { cfg := s.cfg, mode := .off, epat := .hazard, dpos := 0, clock := 0, lastResetTime := 0,
        clkLevel := clk0, desync := 0, armed := false, holdCounter := 0, dbgCount := 0, out := 0b00000,
        seqActive := false, seqStep := 0, seqTimer := 0, tphase := .render,
        inDt := dt0, inRst := rst0, inBrk := brk0, tcntCleared := true,
        trace := s.trace, ports := s.ports, resetDone := true }

/-- `State.reset` is what the idle reset word leaves of any default-configured block with no other input waiting. The levels
are the model's choice (log 5), the configuration the spec's defaults (log 6). -/
def Obligations.ResetStateIsLeftByTheIdleResetWord : Prop :=
  ∀ s : State, s.cfg = defaultConfig → s.trace = [0xF7#8] → s.ports = [] → step s = .next State.reset

/-- The lamp pins under the polarity constants, and all off after reset: lights HIGH, indicators LOW by default
(R36). -/
def Obligations.LampPinLevels : Prop :=
  (∀ s : State,
    ((lampPins s).front = s.cfg.lightOnLevel ↔ s.out.getLsbD 0 = true) ∧
    ((lampPins s).leftLight = s.cfg.lightOnLevel ↔ s.out.getLsbD 1 = true) ∧
    ((lampPins s).rightLight = s.cfg.lightOnLevel ↔ s.out.getLsbD 2 = true) ∧
    ((lampPins s).leftInd = s.cfg.indOnLevel ↔ s.out.getLsbD 3 = true) ∧
    ((lampPins s).rightInd = s.cfg.indOnLevel ↔ s.out.getLsbD 4 = true)) ∧
  (∀ s : State, s.cfg.lightOnLevel = LOW → s.cfg.indOnLevel = HIGH → s.out = 0b00000 →
    lampPins s = ⟨HIGH, HIGH, HIGH, LOW, LOW⟩)

/-- The countdown's clear line pulses exactly at an accepted edge of the reset pin (ARM or DISARM), at a firing OVF, at a
RESYNC in turn that disarms, and at RESET (R80, R85); with a pulse the count and the countdown are cleared and `armed` is
what ARM or DISARM leaves, without one `armed` stays and only OVF counts. The line as a function of operation and state
is the model's (log 17). -/
def Obligations.ClearLinePulsesOnArmAndDisarm : Prop :=
  (∀ (i : Instr) (s : State), tmrClr i s = true ↔
    (∃ v : Level, i = .pinRst v ∧ v ≠ s.inRst ∧
      accept s.cfg.clockBits s.clock s.lastResetTime s.cfg.debounceMin = true) ∨
    (i = .ovf ∧ s.armed = true ∧ s.cfg.holdLimit < s.holdCounter + 1) ∨
    (i = .resync ∧ s.tphase = .resync ∧ s.inRst ≠ s.cfg.rstPressedLevel ∧ resyncGateOk s = true) ∨
    i.isReset = true) ∧
  (∀ (i : Instr) (s t : State), exec i s = .next t →
    (tmrClr i s = true → t.holdCounter = 0 ∧ t.tcntCleared = true ∧
      (t.armed = true ↔ i = .pinRst s.cfg.rstPressedLevel)) ∧
    (tmrClr i s = false → t.armed = s.armed ∧
      (t.holdCounter ≠ s.holdCounter → i = .ovf ∧ s.armed = true ∧ t.holdCounter = s.holdCounter + 1)))

/-- After the operations of one instant, in whatever order they are applied, the block has seen every line and no edge is
left (R65, R66, R126, R127); the main loop has moved at most once, and only if it was due. -/
def Obligations.CoincidentEventsLeaveNoEdge : Prop :=
  ∀ (s : State) (p : PortInputs) (ops : List Instr),
    s.cfg.wf = true → p.rstSys = false → ops.Perm (portOps s p) →
    ∃ t, runOps ops s = .next t ∧
      t.inRst = p.lines.btn ∧ t.inBrk = brakeState s.cfg p.lines.brake ∧ t.inDt = p.lines.encDt ∧
      t.clkLevel = p.lines.encClk ∧
      t.tphase = (if p.tick = true ∨ s.tphase ≠ .render then s.tphase.next else s.tphase) ∧
      ∀ e : EventSource, e ≠ .ovf → e ≠ .mainLoop → sourceOp t p e = none

/-- The strobes (R43): from between two ticks, one `tick` strobe starts one tick, which takes the four instants from it
on and no more; without the strobe the main loop does not move; and `rst_sys` is RESET with the live levels of the lines,
whatever else the ports show. One micro-operation an instant is the model's (log 23). -/
def Obligations.StrobesStartTicksAndResets : Prop :=
  (∀ s : State, s.cfg.wf = true → s.tphase = .render →
    runPorts [quiet s true, quiet s false, quiet s false, quiet s false] s = runOps tickOps s ∧
    runPorts [quiet s true, quiet s false, quiet s false, quiet s false, quiet s false] s = runOps tickOps s ∧
    runPorts [quiet s false] s = .next s) ∧
  (∀ (s : State) (p : PortInputs), p.rstSys = true →
    runPorts [p] s =
      exec (.reset (p.lines.brake == s.cfg.brakeHeldLevel) p.lines.btn p.lines.encDt p.lines.encClk) s)

/-! ## Rules over all operations -/

/-- The write sets of R34: a register an operation's column does not mark "w" is unchanged by it. The configuration,
the events still to come and the power-on flag are the model's (log 1, log 4, log 14). -/
def Obligations.WriteSets : Prop :=
  ∀ (i : Instr) (s t : State), i.isReset = false → exec i s = .next t →
    (t.mode ≠ s.mode → i.mnemonic ∈ ["PIN.CLK", "PIN.RST", "OVF"]) ∧
    (t.epat ≠ s.epat → i.mnemonic = "PIN.RST") ∧
    (t.dpos ≠ s.dpos → i.mnemonic = "PIN.CLK") ∧
    (t.clock ≠ s.clock → i.mnemonic ∈ ["PIN.CLK", "PIN.RST", "ADVANCE"]) ∧
    (t.lastResetTime ≠ s.lastResetTime → i.mnemonic = "PIN.RST") ∧
    (t.clkLevel ≠ s.clkLevel → i.mnemonic = "PIN.CLK") ∧
    (t.desync ≠ s.desync → i.mnemonic = "PIN.CLK") ∧
    (t.armed ≠ s.armed → i.mnemonic ∈ ["PIN.RST", "OVF", "RESYNC"]) ∧
    (t.holdCounter ≠ s.holdCounter → i.mnemonic ∈ ["PIN.RST", "OVF", "RESYNC"]) ∧
    (t.dbgCount ≠ s.dbgCount → i.mnemonic ∈ ["PIN.RST", "PIN.BRK"]) ∧
    (t.out ≠ s.out → i.mnemonic ∈ ["PIN.RST", "RENDER", "MIRROR"]) ∧
    (t.seqActive ≠ s.seqActive → i.mnemonic ∈ ["PIN.RST", "RENDER"]) ∧
    (t.seqStep ≠ s.seqStep → i.mnemonic ∈ ["PIN.RST", "RENDER"]) ∧
    (t.seqTimer ≠ s.seqTimer → i.mnemonic ∈ ["PIN.RST", "RENDER"]) ∧
    (t.tphase ≠ s.tphase → i.mnemonic ∈ ["RENDER", "MIRROR", "RESYNC", "ADVANCE"]) ∧
    (t.inDt ≠ s.inDt → i.mnemonic = "PIN.DT") ∧
    (t.inRst ≠ s.inRst → i.mnemonic = "PIN.RST") ∧
    (t.inBrk ≠ s.inBrk → i.mnemonic = "PIN.BRK") ∧
    (t.tcntCleared ≠ s.tcntCleared → i.mnemonic ∈ ["PIN.RST", "OVF", "RESYNC"]) ∧
    t.cfg = s.cfg ∧ t.trace = s.trace ∧ t.ports = s.ports ∧ t.resetDone = s.resetDone

/-- The clock is advanced by ADVANCE and set to 0 in exactly three places: a rotation event, step 3 of PRESS in
Emergency mode, and RESET; it is never touched otherwise (R17, R97). -/
def Obligations.ClockIsResetInThreePlaces : Prop :=
  ∀ (i : Instr) (s t : State), exec i s = .next t →
    t.clock =
      match i with
      | .advance => (s.clock + 1) % 2 ^ s.cfg.clockBits
      | .reset _ _ _ _ => 0
      | .pinClk v =>
        if v ≠ s.clkLevel ∧ s.mode ≠ .emergency ∧
            (countAfter s v ≤ -(s.cfg.rotThresh : Int) ∨ (s.cfg.rotThresh : Int) ≤ countAfter s v) then 0
        else s.clock
      | .pinRst v =>
        if acceptedPress (.pinRst v) s ∧ s.mode = .emergency ∧ ¬ promotes s then 0 else s.clock
      | .nop | .pinDt _ | .pinBrk _ | .ovf | .render | .mirror | .resync => s.clock

/-- The ways into and out of Debug and Emergency (R93): promotion in, long press out; long press in, long press or
promotion out. RESET apart. -/
def Obligations.DebugAndEmergencyEntryAndExit : Prop :=
  ∀ (i : Instr) (s t : State), i.isReset = false → exec i s = .next t →
    (s.mode ≠ .debug → t.mode = .debug → acceptedPress i s ∧ promotes s ∧ t.seqActive = true) ∧
    (s.mode = .debug → t.mode ≠ .debug → i = .ovf ∧ ovfFires s = true ∧ t.mode = .off) ∧
    (s.mode ≠ .emergency → t.mode = .emergency → i = .ovf ∧ ovfFires s = true ∧ s.mode ≠ .debug) ∧
    (s.mode = .emergency → t.mode ≠ .emergency →
      (i = .ovf ∧ ovfFires s = true ∧ t.mode = .off) ∨ (acceptedPress i s ∧ promotes s ∧ t.mode = .debug))

/-- The sub-modes move only in their own mode and by one place of their cycle (R94 to R96). RESET apart. -/
def Obligations.SubModesAreKept : Prop :=
  ∀ (i : Instr) (s t : State), i.isReset = false → exec i s = .next t →
    (t.epat ≠ s.epat → s.mode = .emergency ∧ acceptedPress i s ∧ ¬ promotes s ∧ t.epat = s.epat.next) ∧
    (t.dpos ≠ s.dpos → s.mode = .debug ∧ i.mnemonic = "PIN.CLK" ∧ (t.dpos = s.dpos + 1 ∨ t.dpos = s.dpos - 1))

/-- Debug mode is entered only after DEBUG_PRESSES presses: a trace that starts outside Debug mode with the count at 0
and ends in Debug mode holds at least that many "pressed" words (R98). -/
def Obligations.DebugModeNeedsItsPresses : Prop :=
  ∀ (ops : List Instr) (s t : State), s.mode ≠ .debug → s.dbgCount = 0 →
    runOps ops s = .next t → t.mode = .debug →
    s.cfg.debugPresses ≤ ops.count (.pinRst s.cfg.rstPressedLevel)

/-! ## Invariants -/

/-- State.reset, and every state RESET leaves under a well-formed configuration, satisfies the invariants (R33, R35). -/
def Obligations.ResetStatesSatisfyTheInvariants : Prop :=
  Inv State.reset ∧
  ∀ (c : Config) (brk0 rst0 dt0 clk0 : Level), c.wf = true → Inv (State.afterReset c brk0 rst0 dt0 clk0)

/-- Every step keeps the invariants, whatever word it runs. -/
def Obligations.StepKeepsTheInvariants : Prop :=
  ∀ s s' : State, Inv s → step s = .next s' → Inv s'

/-- R33 as printed, for the source's literals and any trace: between any two operations after RESET. -/
def Obligations.StatedRangesHoldAfterReset : Prop :=
  ∀ (c : Config) (brk0 rst0 dt0 clk0 : Level) (ops : List Instr) (t : State),
    c.wf = true → SourceValues c → runOps ops (State.afterReset c brk0 rst0 dt0 clk0) = .next t →
    StatedRanges t

/-- A trace whose main-loop words are in turn runs to its end, with the invariants holding there; a trace with one out
of turn is refused (R117, R121, R122). -/
def Obligations.TracesInTurnRunSafely : Prop :=
  ∀ (ops : List Instr) (s : State), Inv s →
    (traceInTurn s.tphase ops = true → SafeRun ops s) ∧
    (traceInTurn s.tphase ops = false → ∃ p q, runOps ops s = .refused (.outOfTurn p q))
end

