-- ==== Sys2Proof/Laws/State.lean ====
section
/-! SUPPORT. One lemma per field per shared operation: the value it writes, or that it leaves the field alone. A field
with no lemma here is one the operation writes by cases; the operation's own lemma (Laws/Ops.lean) says how. -/

namespace Sys2Proof.Machine

variable (s : State)

@[simp] theorem opArm_cfg : (opArm s).cfg = s.cfg := rfl
@[simp] theorem opArm_mode : (opArm s).mode = s.mode := rfl
@[simp] theorem opArm_epat : (opArm s).epat = s.epat := rfl
@[simp] theorem opArm_dpos : (opArm s).dpos = s.dpos := rfl
@[simp] theorem opArm_clock : (opArm s).clock = s.clock := rfl
@[simp] theorem opArm_lastResetTime : (opArm s).lastResetTime = s.lastResetTime := rfl
@[simp] theorem opArm_clkLevel : (opArm s).clkLevel = s.clkLevel := rfl
@[simp] theorem opArm_desync : (opArm s).desync = s.desync := rfl
@[simp] theorem opArm_armed : (opArm s).armed = true := rfl
@[simp] theorem opArm_holdCounter : (opArm s).holdCounter = 0 := rfl
@[simp] theorem opArm_dbgCount : (opArm s).dbgCount = s.dbgCount := rfl
@[simp] theorem opArm_out : (opArm s).out = s.out := rfl
@[simp] theorem opArm_seqActive : (opArm s).seqActive = s.seqActive := rfl
@[simp] theorem opArm_seqStep : (opArm s).seqStep = s.seqStep := rfl
@[simp] theorem opArm_seqTimer : (opArm s).seqTimer = s.seqTimer := rfl
@[simp] theorem opArm_tphase : (opArm s).tphase = s.tphase := rfl
@[simp] theorem opArm_inDt : (opArm s).inDt = s.inDt := rfl
@[simp] theorem opArm_inRst : (opArm s).inRst = s.inRst := rfl
@[simp] theorem opArm_inBrk : (opArm s).inBrk = s.inBrk := rfl
@[simp] theorem opArm_tcntCleared : (opArm s).tcntCleared = true := rfl
@[simp] theorem opArm_trace : (opArm s).trace = s.trace := rfl
@[simp] theorem opArm_ports : (opArm s).ports = s.ports := rfl
@[simp] theorem opArm_resetDone : (opArm s).resetDone = s.resetDone := rfl

@[simp] theorem opDisarm_cfg : (opDisarm s).cfg = s.cfg := rfl
@[simp] theorem opDisarm_mode : (opDisarm s).mode = s.mode := rfl
@[simp] theorem opDisarm_epat : (opDisarm s).epat = s.epat := rfl
@[simp] theorem opDisarm_dpos : (opDisarm s).dpos = s.dpos := rfl
@[simp] theorem opDisarm_clock : (opDisarm s).clock = s.clock := rfl
@[simp] theorem opDisarm_lastResetTime : (opDisarm s).lastResetTime = s.lastResetTime := rfl
@[simp] theorem opDisarm_clkLevel : (opDisarm s).clkLevel = s.clkLevel := rfl
@[simp] theorem opDisarm_desync : (opDisarm s).desync = s.desync := rfl
@[simp] theorem opDisarm_armed : (opDisarm s).armed = false := rfl
@[simp] theorem opDisarm_holdCounter : (opDisarm s).holdCounter = 0 := rfl
@[simp] theorem opDisarm_dbgCount : (opDisarm s).dbgCount = s.dbgCount := rfl
@[simp] theorem opDisarm_out : (opDisarm s).out = s.out := rfl
@[simp] theorem opDisarm_seqActive : (opDisarm s).seqActive = s.seqActive := rfl
@[simp] theorem opDisarm_seqStep : (opDisarm s).seqStep = s.seqStep := rfl
@[simp] theorem opDisarm_seqTimer : (opDisarm s).seqTimer = s.seqTimer := rfl
@[simp] theorem opDisarm_tphase : (opDisarm s).tphase = s.tphase := rfl
@[simp] theorem opDisarm_inDt : (opDisarm s).inDt = s.inDt := rfl
@[simp] theorem opDisarm_inRst : (opDisarm s).inRst = s.inRst := rfl
@[simp] theorem opDisarm_inBrk : (opDisarm s).inBrk = s.inBrk := rfl
@[simp] theorem opDisarm_tcntCleared : (opDisarm s).tcntCleared = true := rfl
@[simp] theorem opDisarm_trace : (opDisarm s).trace = s.trace := rfl
@[simp] theorem opDisarm_ports : (opDisarm s).ports = s.ports := rfl
@[simp] theorem opDisarm_resetDone : (opDisarm s).resetDone = s.resetDone := rfl

@[simp] theorem opSeqStart_cfg : (opSeqStart s).cfg = s.cfg := rfl
@[simp] theorem opSeqStart_mode : (opSeqStart s).mode = s.mode := rfl
@[simp] theorem opSeqStart_epat : (opSeqStart s).epat = s.epat := rfl
@[simp] theorem opSeqStart_dpos : (opSeqStart s).dpos = s.dpos := rfl
@[simp] theorem opSeqStart_clock : (opSeqStart s).clock = s.clock := rfl
@[simp] theorem opSeqStart_lastResetTime : (opSeqStart s).lastResetTime = s.lastResetTime := rfl
@[simp] theorem opSeqStart_clkLevel : (opSeqStart s).clkLevel = s.clkLevel := rfl
@[simp] theorem opSeqStart_desync : (opSeqStart s).desync = s.desync := rfl
@[simp] theorem opSeqStart_armed : (opSeqStart s).armed = s.armed := rfl
@[simp] theorem opSeqStart_holdCounter : (opSeqStart s).holdCounter = s.holdCounter := rfl
@[simp] theorem opSeqStart_dbgCount : (opSeqStart s).dbgCount = s.dbgCount := rfl
@[simp] theorem opSeqStart_out : (opSeqStart s).out = s.cfg.testSeqImage 0 := rfl
@[simp] theorem opSeqStart_seqActive : (opSeqStart s).seqActive = true := rfl
@[simp] theorem opSeqStart_seqStep : (opSeqStart s).seqStep = 0 := rfl
@[simp] theorem opSeqStart_seqTimer : (opSeqStart s).seqTimer = 0 := rfl
@[simp] theorem opSeqStart_tphase : (opSeqStart s).tphase = s.tphase := rfl
@[simp] theorem opSeqStart_inDt : (opSeqStart s).inDt = s.inDt := rfl
@[simp] theorem opSeqStart_inRst : (opSeqStart s).inRst = s.inRst := rfl
@[simp] theorem opSeqStart_inBrk : (opSeqStart s).inBrk = s.inBrk := rfl
@[simp] theorem opSeqStart_tcntCleared : (opSeqStart s).tcntCleared = s.tcntCleared := rfl
@[simp] theorem opSeqStart_trace : (opSeqStart s).trace = s.trace := rfl
@[simp] theorem opSeqStart_ports : (opSeqStart s).ports = s.ports := rfl
@[simp] theorem opSeqStart_resetDone : (opSeqStart s).resetDone = s.resetDone := rfl

@[simp] theorem opPromote_cfg : (opPromote s).cfg = s.cfg := rfl
@[simp] theorem opPromote_mode : (opPromote s).mode = .debug := rfl
@[simp] theorem opPromote_epat : (opPromote s).epat = s.epat := rfl
@[simp] theorem opPromote_dpos : (opPromote s).dpos = s.dpos := rfl
@[simp] theorem opPromote_clock : (opPromote s).clock = s.clock := rfl
@[simp] theorem opPromote_lastResetTime : (opPromote s).lastResetTime = s.lastResetTime := rfl
@[simp] theorem opPromote_clkLevel : (opPromote s).clkLevel = s.clkLevel := rfl
@[simp] theorem opPromote_desync : (opPromote s).desync = s.desync := rfl
@[simp] theorem opPromote_armed : (opPromote s).armed = s.armed := rfl
@[simp] theorem opPromote_holdCounter : (opPromote s).holdCounter = s.holdCounter := rfl
@[simp] theorem opPromote_dbgCount : (opPromote s).dbgCount = 0 := rfl
@[simp] theorem opPromote_out : (opPromote s).out = s.cfg.testSeqImage 0 := rfl
@[simp] theorem opPromote_seqActive : (opPromote s).seqActive = true := rfl
@[simp] theorem opPromote_seqStep : (opPromote s).seqStep = 0 := rfl
@[simp] theorem opPromote_seqTimer : (opPromote s).seqTimer = 0 := rfl
@[simp] theorem opPromote_tphase : (opPromote s).tphase = s.tphase := rfl
@[simp] theorem opPromote_inDt : (opPromote s).inDt = s.inDt := rfl
@[simp] theorem opPromote_inRst : (opPromote s).inRst = s.inRst := rfl
@[simp] theorem opPromote_inBrk : (opPromote s).inBrk = s.inBrk := rfl
@[simp] theorem opPromote_tcntCleared : (opPromote s).tcntCleared = s.tcntCleared := rfl
@[simp] theorem opPromote_trace : (opPromote s).trace = s.trace := rfl
@[simp] theorem opPromote_ports : (opPromote s).ports = s.ports := rfl
@[simp] theorem opPromote_resetDone : (opPromote s).resetDone = s.resetDone := rfl

@[simp] theorem opRelease_cfg : (opRelease s).cfg = s.cfg := rfl
@[simp] theorem opRelease_mode : (opRelease s).mode = s.mode := rfl
@[simp] theorem opRelease_epat : (opRelease s).epat = s.epat := rfl
@[simp] theorem opRelease_dpos : (opRelease s).dpos = s.dpos := rfl
@[simp] theorem opRelease_clock : (opRelease s).clock = s.clock := rfl
@[simp] theorem opRelease_lastResetTime : (opRelease s).lastResetTime = s.clock := rfl
@[simp] theorem opRelease_clkLevel : (opRelease s).clkLevel = s.clkLevel := rfl
@[simp] theorem opRelease_desync : (opRelease s).desync = s.desync := rfl
@[simp] theorem opRelease_armed : (opRelease s).armed = false := rfl
@[simp] theorem opRelease_holdCounter : (opRelease s).holdCounter = 0 := rfl
@[simp] theorem opRelease_dbgCount : (opRelease s).dbgCount = s.dbgCount := rfl
@[simp] theorem opRelease_out : (opRelease s).out = s.out := rfl
@[simp] theorem opRelease_seqActive : (opRelease s).seqActive = s.seqActive := rfl
@[simp] theorem opRelease_seqStep : (opRelease s).seqStep = s.seqStep := rfl
@[simp] theorem opRelease_seqTimer : (opRelease s).seqTimer = s.seqTimer := rfl
@[simp] theorem opRelease_tphase : (opRelease s).tphase = s.tphase := rfl
@[simp] theorem opRelease_inDt : (opRelease s).inDt = s.inDt := rfl
@[simp] theorem opRelease_inRst : (opRelease s).inRst = s.inRst := rfl
@[simp] theorem opRelease_inBrk : (opRelease s).inBrk = s.inBrk := rfl
@[simp] theorem opRelease_tcntCleared : (opRelease s).tcntCleared = true := rfl
@[simp] theorem opRelease_trace : (opRelease s).trace = s.trace := rfl
@[simp] theorem opRelease_ports : (opRelease s).ports = s.ports := rfl
@[simp] theorem opRelease_resetDone : (opRelease s).resetDone = s.resetDone := rfl

@[simp] theorem opAdvance_cfg : (opAdvance s).cfg = s.cfg := rfl
@[simp] theorem opAdvance_mode : (opAdvance s).mode = s.mode := rfl
@[simp] theorem opAdvance_epat : (opAdvance s).epat = s.epat := rfl
@[simp] theorem opAdvance_dpos : (opAdvance s).dpos = s.dpos := rfl
@[simp] theorem opAdvance_clock : (opAdvance s).clock = addW s.cfg.clockBits s.clock 1 := rfl
@[simp] theorem opAdvance_lastResetTime : (opAdvance s).lastResetTime = s.lastResetTime := rfl
@[simp] theorem opAdvance_clkLevel : (opAdvance s).clkLevel = s.clkLevel := rfl
@[simp] theorem opAdvance_desync : (opAdvance s).desync = s.desync := rfl
@[simp] theorem opAdvance_armed : (opAdvance s).armed = s.armed := rfl
@[simp] theorem opAdvance_holdCounter : (opAdvance s).holdCounter = s.holdCounter := rfl
@[simp] theorem opAdvance_dbgCount : (opAdvance s).dbgCount = s.dbgCount := rfl
@[simp] theorem opAdvance_out : (opAdvance s).out = s.out := rfl
@[simp] theorem opAdvance_seqActive : (opAdvance s).seqActive = s.seqActive := rfl
@[simp] theorem opAdvance_seqStep : (opAdvance s).seqStep = s.seqStep := rfl
@[simp] theorem opAdvance_seqTimer : (opAdvance s).seqTimer = s.seqTimer := rfl
@[simp] theorem opAdvance_tphase : (opAdvance s).tphase = s.tphase := rfl
@[simp] theorem opAdvance_inDt : (opAdvance s).inDt = s.inDt := rfl
@[simp] theorem opAdvance_inRst : (opAdvance s).inRst = s.inRst := rfl
@[simp] theorem opAdvance_inBrk : (opAdvance s).inBrk = s.inBrk := rfl
@[simp] theorem opAdvance_tcntCleared : (opAdvance s).tcntCleared = s.tcntCleared := rfl
@[simp] theorem opAdvance_trace : (opAdvance s).trace = s.trace := rfl
@[simp] theorem opAdvance_ports : (opAdvance s).ports = s.ports := rfl
@[simp] theorem opAdvance_resetDone : (opAdvance s).resetDone = s.resetDone := rfl

@[simp] theorem opSeqStep_cfg : (opSeqStep s).cfg = s.cfg := by simp only [opSeqStep]; split_ifs <;> rfl
@[simp] theorem opSeqStep_mode : (opSeqStep s).mode = s.mode := by simp only [opSeqStep]; split_ifs <;> rfl
@[simp] theorem opSeqStep_epat : (opSeqStep s).epat = s.epat := by simp only [opSeqStep]; split_ifs <;> rfl
@[simp] theorem opSeqStep_dpos : (opSeqStep s).dpos = s.dpos := by simp only [opSeqStep]; split_ifs <;> rfl
@[simp] theorem opSeqStep_clock : (opSeqStep s).clock = s.clock := by simp only [opSeqStep]; split_ifs <;> rfl
@[simp] theorem opSeqStep_lastResetTime : (opSeqStep s).lastResetTime = s.lastResetTime := by simp only [opSeqStep]; split_ifs <;> rfl
@[simp] theorem opSeqStep_clkLevel : (opSeqStep s).clkLevel = s.clkLevel := by simp only [opSeqStep]; split_ifs <;> rfl
@[simp] theorem opSeqStep_desync : (opSeqStep s).desync = s.desync := by simp only [opSeqStep]; split_ifs <;> rfl
@[simp] theorem opSeqStep_armed : (opSeqStep s).armed = s.armed := by simp only [opSeqStep]; split_ifs <;> rfl
@[simp] theorem opSeqStep_holdCounter : (opSeqStep s).holdCounter = s.holdCounter := by simp only [opSeqStep]; split_ifs <;> rfl
@[simp] theorem opSeqStep_dbgCount : (opSeqStep s).dbgCount = s.dbgCount := by simp only [opSeqStep]; split_ifs <;> rfl
@[simp] theorem opSeqStep_tphase : (opSeqStep s).tphase = s.tphase := by simp only [opSeqStep]; split_ifs <;> rfl
@[simp] theorem opSeqStep_inDt : (opSeqStep s).inDt = s.inDt := by simp only [opSeqStep]; split_ifs <;> rfl
@[simp] theorem opSeqStep_inRst : (opSeqStep s).inRst = s.inRst := by simp only [opSeqStep]; split_ifs <;> rfl
@[simp] theorem opSeqStep_inBrk : (opSeqStep s).inBrk = s.inBrk := by simp only [opSeqStep]; split_ifs <;> rfl
@[simp] theorem opSeqStep_tcntCleared : (opSeqStep s).tcntCleared = s.tcntCleared := by simp only [opSeqStep]; split_ifs <;> rfl
@[simp] theorem opSeqStep_trace : (opSeqStep s).trace = s.trace := by simp only [opSeqStep]; split_ifs <;> rfl
@[simp] theorem opSeqStep_ports : (opSeqStep s).ports = s.ports := by simp only [opSeqStep]; split_ifs <;> rfl
@[simp] theorem opSeqStep_resetDone : (opSeqStep s).resetDone = s.resetDone := by simp only [opSeqStep]; split_ifs <;> rfl

@[simp] theorem opDbgEntry_cfg : (opDbgEntry s).cfg = s.cfg := by simp only [opDbgEntry]; split_ifs <;> rfl
@[simp] theorem opDbgEntry_epat : (opDbgEntry s).epat = s.epat := by simp only [opDbgEntry]; split_ifs <;> rfl
@[simp] theorem opDbgEntry_dpos : (opDbgEntry s).dpos = s.dpos := by simp only [opDbgEntry]; split_ifs <;> rfl
@[simp] theorem opDbgEntry_clock : (opDbgEntry s).clock = s.clock := by simp only [opDbgEntry]; split_ifs <;> rfl
@[simp] theorem opDbgEntry_lastResetTime : (opDbgEntry s).lastResetTime = s.lastResetTime := by simp only [opDbgEntry]; split_ifs <;> rfl
@[simp] theorem opDbgEntry_clkLevel : (opDbgEntry s).clkLevel = s.clkLevel := by simp only [opDbgEntry]; split_ifs <;> rfl
@[simp] theorem opDbgEntry_desync : (opDbgEntry s).desync = s.desync := by simp only [opDbgEntry]; split_ifs <;> rfl
@[simp] theorem opDbgEntry_armed : (opDbgEntry s).armed = s.armed := by simp only [opDbgEntry]; split_ifs <;> rfl
@[simp] theorem opDbgEntry_holdCounter : (opDbgEntry s).holdCounter = s.holdCounter := by simp only [opDbgEntry]; split_ifs <;> rfl
@[simp] theorem opDbgEntry_tphase : (opDbgEntry s).tphase = s.tphase := by simp only [opDbgEntry]; split_ifs <;> rfl
@[simp] theorem opDbgEntry_inDt : (opDbgEntry s).inDt = s.inDt := by simp only [opDbgEntry]; split_ifs <;> rfl
@[simp] theorem opDbgEntry_inRst : (opDbgEntry s).inRst = s.inRst := by simp only [opDbgEntry]; split_ifs <;> rfl
@[simp] theorem opDbgEntry_inBrk : (opDbgEntry s).inBrk = s.inBrk := by simp only [opDbgEntry]; split_ifs <;> rfl
@[simp] theorem opDbgEntry_tcntCleared : (opDbgEntry s).tcntCleared = s.tcntCleared := by simp only [opDbgEntry]; split_ifs <;> rfl
@[simp] theorem opDbgEntry_trace : (opDbgEntry s).trace = s.trace := by simp only [opDbgEntry]; split_ifs <;> rfl
@[simp] theorem opDbgEntry_ports : (opDbgEntry s).ports = s.ports := by simp only [opDbgEntry]; split_ifs <;> rfl
@[simp] theorem opDbgEntry_resetDone : (opDbgEntry s).resetDone = s.resetDone := by simp only [opDbgEntry]; split_ifs <;> rfl

@[simp] theorem opPressMode_cfg : (opPressMode s).cfg = s.cfg := by simp only [opPressMode]; split <;> rfl
@[simp] theorem opPressMode_dpos : (opPressMode s).dpos = s.dpos := by simp only [opPressMode]; split <;> rfl
@[simp] theorem opPressMode_lastResetTime : (opPressMode s).lastResetTime = s.lastResetTime := by simp only [opPressMode]; split <;> rfl
@[simp] theorem opPressMode_clkLevel : (opPressMode s).clkLevel = s.clkLevel := by simp only [opPressMode]; split <;> rfl
@[simp] theorem opPressMode_desync : (opPressMode s).desync = s.desync := by simp only [opPressMode]; split <;> rfl
@[simp] theorem opPressMode_armed : (opPressMode s).armed = s.armed := by simp only [opPressMode]; split <;> rfl
@[simp] theorem opPressMode_holdCounter : (opPressMode s).holdCounter = s.holdCounter := by simp only [opPressMode]; split <;> rfl
@[simp] theorem opPressMode_dbgCount : (opPressMode s).dbgCount = s.dbgCount := by simp only [opPressMode]; split <;> rfl
@[simp] theorem opPressMode_out : (opPressMode s).out = s.out := by simp only [opPressMode]; split <;> rfl
@[simp] theorem opPressMode_seqActive : (opPressMode s).seqActive = s.seqActive := by simp only [opPressMode]; split <;> rfl
@[simp] theorem opPressMode_seqStep : (opPressMode s).seqStep = s.seqStep := by simp only [opPressMode]; split <;> rfl
@[simp] theorem opPressMode_seqTimer : (opPressMode s).seqTimer = s.seqTimer := by simp only [opPressMode]; split <;> rfl
@[simp] theorem opPressMode_tphase : (opPressMode s).tphase = s.tphase := by simp only [opPressMode]; split <;> rfl
@[simp] theorem opPressMode_inDt : (opPressMode s).inDt = s.inDt := by simp only [opPressMode]; split <;> rfl
@[simp] theorem opPressMode_inRst : (opPressMode s).inRst = s.inRst := by simp only [opPressMode]; split <;> rfl
@[simp] theorem opPressMode_inBrk : (opPressMode s).inBrk = s.inBrk := by simp only [opPressMode]; split <;> rfl
@[simp] theorem opPressMode_tcntCleared : (opPressMode s).tcntCleared = s.tcntCleared := by simp only [opPressMode]; split <;> rfl
@[simp] theorem opPressMode_trace : (opPressMode s).trace = s.trace := by simp only [opPressMode]; split <;> rfl
@[simp] theorem opPressMode_ports : (opPressMode s).ports = s.ports := by simp only [opPressMode]; split <;> rfl
@[simp] theorem opPressMode_resetDone : (opPressMode s).resetDone = s.resetDone := by simp only [opPressMode]; split <;> rfl

@[simp] theorem opPress_cfg : (opPress s).cfg = s.cfg := by simp [opPress]
@[simp] theorem opPress_dpos : (opPress s).dpos = s.dpos := by simp [opPress]
@[simp] theorem opPress_clkLevel : (opPress s).clkLevel = s.clkLevel := by simp [opPress]
@[simp] theorem opPress_desync : (opPress s).desync = s.desync := by simp [opPress]
@[simp] theorem opPress_tphase : (opPress s).tphase = s.tphase := by simp [opPress]
@[simp] theorem opPress_inDt : (opPress s).inDt = s.inDt := by simp [opPress]
@[simp] theorem opPress_inRst : (opPress s).inRst = s.inRst := by simp [opPress]
@[simp] theorem opPress_inBrk : (opPress s).inBrk = s.inBrk := by simp [opPress]
@[simp] theorem opPress_trace : (opPress s).trace = s.trace := by simp [opPress]
@[simp] theorem opPress_ports : (opPress s).ports = s.ports := by simp [opPress]
@[simp] theorem opPress_resetDone : (opPress s).resetDone = s.resetDone := by simp [opPress]

@[simp] theorem opPress_lastResetTime : (opPress s).lastResetTime = s.clock := by simp [opPress]
@[simp] theorem opPress_armed : (opPress s).armed = true := by simp [opPress]
@[simp] theorem opPress_holdCounter : (opPress s).holdCounter = 0 := by simp [opPress]
@[simp] theorem opPress_tcntCleared : (opPress s).tcntCleared = true := by simp [opPress]

@[simp] theorem opLongPress_cfg : (opLongPress s).cfg = s.cfg := by simp only [opLongPress]; split <;> rfl
@[simp] theorem opLongPress_epat : (opLongPress s).epat = s.epat := by simp only [opLongPress]; split <;> rfl
@[simp] theorem opLongPress_dpos : (opLongPress s).dpos = s.dpos := by simp only [opLongPress]; split <;> rfl
@[simp] theorem opLongPress_clock : (opLongPress s).clock = s.clock := by simp only [opLongPress]; split <;> rfl
@[simp] theorem opLongPress_lastResetTime : (opLongPress s).lastResetTime = s.lastResetTime := by simp only [opLongPress]; split <;> rfl
@[simp] theorem opLongPress_clkLevel : (opLongPress s).clkLevel = s.clkLevel := by simp only [opLongPress]; split <;> rfl
@[simp] theorem opLongPress_desync : (opLongPress s).desync = s.desync := by simp only [opLongPress]; split <;> rfl
@[simp] theorem opLongPress_armed : (opLongPress s).armed = s.armed := by simp only [opLongPress]; split <;> rfl
@[simp] theorem opLongPress_holdCounter : (opLongPress s).holdCounter = s.holdCounter := by simp only [opLongPress]; split <;> rfl
@[simp] theorem opLongPress_dbgCount : (opLongPress s).dbgCount = s.dbgCount := by simp only [opLongPress]; split <;> rfl
@[simp] theorem opLongPress_out : (opLongPress s).out = s.out := by simp only [opLongPress]; split <;> rfl
@[simp] theorem opLongPress_seqActive : (opLongPress s).seqActive = s.seqActive := by simp only [opLongPress]; split <;> rfl
@[simp] theorem opLongPress_seqStep : (opLongPress s).seqStep = s.seqStep := by simp only [opLongPress]; split <;> rfl
@[simp] theorem opLongPress_seqTimer : (opLongPress s).seqTimer = s.seqTimer := by simp only [opLongPress]; split <;> rfl
@[simp] theorem opLongPress_tphase : (opLongPress s).tphase = s.tphase := by simp only [opLongPress]; split <;> rfl
@[simp] theorem opLongPress_inDt : (opLongPress s).inDt = s.inDt := by simp only [opLongPress]; split <;> rfl
@[simp] theorem opLongPress_inRst : (opLongPress s).inRst = s.inRst := by simp only [opLongPress]; split <;> rfl
@[simp] theorem opLongPress_inBrk : (opLongPress s).inBrk = s.inBrk := by simp only [opLongPress]; split <;> rfl
@[simp] theorem opLongPress_tcntCleared : (opLongPress s).tcntCleared = s.tcntCleared := by simp only [opLongPress]; split <;> rfl
@[simp] theorem opLongPress_trace : (opLongPress s).trace = s.trace := by simp only [opLongPress]; split <;> rfl
@[simp] theorem opLongPress_ports : (opLongPress s).ports = s.ports := by simp only [opLongPress]; split <;> rfl
@[simp] theorem opLongPress_resetDone : (opLongPress s).resetDone = s.resetDone := by simp only [opLongPress]; split <;> rfl

@[simp] theorem opRotateLeft_cfg : (opRotateLeft s).cfg = s.cfg := by simp only [opRotateLeft]; split_ifs <;> rfl
@[simp] theorem opRotateLeft_epat : (opRotateLeft s).epat = s.epat := by simp only [opRotateLeft]; split_ifs <;> rfl
@[simp] theorem opRotateLeft_clock : (opRotateLeft s).clock = s.clock := by simp only [opRotateLeft]; split_ifs <;> rfl
@[simp] theorem opRotateLeft_lastResetTime : (opRotateLeft s).lastResetTime = s.lastResetTime := by simp only [opRotateLeft]; split_ifs <;> rfl
@[simp] theorem opRotateLeft_clkLevel : (opRotateLeft s).clkLevel = s.clkLevel := by simp only [opRotateLeft]; split_ifs <;> rfl
@[simp] theorem opRotateLeft_desync : (opRotateLeft s).desync = s.desync := by simp only [opRotateLeft]; split_ifs <;> rfl
@[simp] theorem opRotateLeft_armed : (opRotateLeft s).armed = s.armed := by simp only [opRotateLeft]; split_ifs <;> rfl
@[simp] theorem opRotateLeft_holdCounter : (opRotateLeft s).holdCounter = s.holdCounter := by simp only [opRotateLeft]; split_ifs <;> rfl
@[simp] theorem opRotateLeft_dbgCount : (opRotateLeft s).dbgCount = s.dbgCount := by simp only [opRotateLeft]; split_ifs <;> rfl
@[simp] theorem opRotateLeft_out : (opRotateLeft s).out = s.out := by simp only [opRotateLeft]; split_ifs <;> rfl
@[simp] theorem opRotateLeft_seqActive : (opRotateLeft s).seqActive = s.seqActive := by simp only [opRotateLeft]; split_ifs <;> rfl
@[simp] theorem opRotateLeft_seqStep : (opRotateLeft s).seqStep = s.seqStep := by simp only [opRotateLeft]; split_ifs <;> rfl
@[simp] theorem opRotateLeft_seqTimer : (opRotateLeft s).seqTimer = s.seqTimer := by simp only [opRotateLeft]; split_ifs <;> rfl
@[simp] theorem opRotateLeft_tphase : (opRotateLeft s).tphase = s.tphase := by simp only [opRotateLeft]; split_ifs <;> rfl
@[simp] theorem opRotateLeft_inDt : (opRotateLeft s).inDt = s.inDt := by simp only [opRotateLeft]; split_ifs <;> rfl
@[simp] theorem opRotateLeft_inRst : (opRotateLeft s).inRst = s.inRst := by simp only [opRotateLeft]; split_ifs <;> rfl
@[simp] theorem opRotateLeft_inBrk : (opRotateLeft s).inBrk = s.inBrk := by simp only [opRotateLeft]; split_ifs <;> rfl
@[simp] theorem opRotateLeft_tcntCleared : (opRotateLeft s).tcntCleared = s.tcntCleared := by simp only [opRotateLeft]; split_ifs <;> rfl
@[simp] theorem opRotateLeft_trace : (opRotateLeft s).trace = s.trace := by simp only [opRotateLeft]; split_ifs <;> rfl
@[simp] theorem opRotateLeft_ports : (opRotateLeft s).ports = s.ports := by simp only [opRotateLeft]; split_ifs <;> rfl
@[simp] theorem opRotateLeft_resetDone : (opRotateLeft s).resetDone = s.resetDone := by simp only [opRotateLeft]; split_ifs <;> rfl

@[simp] theorem opRotateRight_cfg : (opRotateRight s).cfg = s.cfg := by simp only [opRotateRight]; split_ifs <;> rfl
@[simp] theorem opRotateRight_epat : (opRotateRight s).epat = s.epat := by simp only [opRotateRight]; split_ifs <;> rfl
@[simp] theorem opRotateRight_clock : (opRotateRight s).clock = s.clock := by simp only [opRotateRight]; split_ifs <;> rfl
@[simp] theorem opRotateRight_lastResetTime : (opRotateRight s).lastResetTime = s.lastResetTime := by simp only [opRotateRight]; split_ifs <;> rfl
@[simp] theorem opRotateRight_clkLevel : (opRotateRight s).clkLevel = s.clkLevel := by simp only [opRotateRight]; split_ifs <;> rfl
@[simp] theorem opRotateRight_desync : (opRotateRight s).desync = s.desync := by simp only [opRotateRight]; split_ifs <;> rfl
@[simp] theorem opRotateRight_armed : (opRotateRight s).armed = s.armed := by simp only [opRotateRight]; split_ifs <;> rfl
@[simp] theorem opRotateRight_holdCounter : (opRotateRight s).holdCounter = s.holdCounter := by simp only [opRotateRight]; split_ifs <;> rfl
@[simp] theorem opRotateRight_dbgCount : (opRotateRight s).dbgCount = s.dbgCount := by simp only [opRotateRight]; split_ifs <;> rfl
@[simp] theorem opRotateRight_out : (opRotateRight s).out = s.out := by simp only [opRotateRight]; split_ifs <;> rfl
@[simp] theorem opRotateRight_seqActive : (opRotateRight s).seqActive = s.seqActive := by simp only [opRotateRight]; split_ifs <;> rfl
@[simp] theorem opRotateRight_seqStep : (opRotateRight s).seqStep = s.seqStep := by simp only [opRotateRight]; split_ifs <;> rfl
@[simp] theorem opRotateRight_seqTimer : (opRotateRight s).seqTimer = s.seqTimer := by simp only [opRotateRight]; split_ifs <;> rfl
@[simp] theorem opRotateRight_tphase : (opRotateRight s).tphase = s.tphase := by simp only [opRotateRight]; split_ifs <;> rfl
@[simp] theorem opRotateRight_inDt : (opRotateRight s).inDt = s.inDt := by simp only [opRotateRight]; split_ifs <;> rfl
@[simp] theorem opRotateRight_inRst : (opRotateRight s).inRst = s.inRst := by simp only [opRotateRight]; split_ifs <;> rfl
@[simp] theorem opRotateRight_inBrk : (opRotateRight s).inBrk = s.inBrk := by simp only [opRotateRight]; split_ifs <;> rfl
@[simp] theorem opRotateRight_tcntCleared : (opRotateRight s).tcntCleared = s.tcntCleared := by simp only [opRotateRight]; split_ifs <;> rfl
@[simp] theorem opRotateRight_trace : (opRotateRight s).trace = s.trace := by simp only [opRotateRight]; split_ifs <;> rfl
@[simp] theorem opRotateRight_ports : (opRotateRight s).ports = s.ports := by simp only [opRotateRight]; split_ifs <;> rfl
@[simp] theorem opRotateRight_resetDone : (opRotateRight s).resetDone = s.resetDone := by simp only [opRotateRight]; split_ifs <;> rfl

@[simp] theorem opDecode_cfg (v : Level) : (opDecode v s).cfg = s.cfg := by simp only [opDecode]; split_ifs <;> simp
@[simp] theorem opDecode_epat (v : Level) : (opDecode v s).epat = s.epat := by simp only [opDecode]; split_ifs <;> simp
@[simp] theorem opDecode_lastResetTime (v : Level) : (opDecode v s).lastResetTime = s.lastResetTime := by simp only [opDecode]; split_ifs <;> simp
@[simp] theorem opDecode_clkLevel (v : Level) : (opDecode v s).clkLevel = s.clkLevel := by simp only [opDecode]; split_ifs <;> simp
@[simp] theorem opDecode_armed (v : Level) : (opDecode v s).armed = s.armed := by simp only [opDecode]; split_ifs <;> simp
@[simp] theorem opDecode_holdCounter (v : Level) : (opDecode v s).holdCounter = s.holdCounter := by simp only [opDecode]; split_ifs <;> simp
@[simp] theorem opDecode_dbgCount (v : Level) : (opDecode v s).dbgCount = s.dbgCount := by simp only [opDecode]; split_ifs <;> simp
@[simp] theorem opDecode_out (v : Level) : (opDecode v s).out = s.out := by simp only [opDecode]; split_ifs <;> simp
@[simp] theorem opDecode_seqActive (v : Level) : (opDecode v s).seqActive = s.seqActive := by simp only [opDecode]; split_ifs <;> simp
@[simp] theorem opDecode_seqStep (v : Level) : (opDecode v s).seqStep = s.seqStep := by simp only [opDecode]; split_ifs <;> simp
@[simp] theorem opDecode_seqTimer (v : Level) : (opDecode v s).seqTimer = s.seqTimer := by simp only [opDecode]; split_ifs <;> simp
@[simp] theorem opDecode_tphase (v : Level) : (opDecode v s).tphase = s.tphase := by simp only [opDecode]; split_ifs <;> simp
@[simp] theorem opDecode_inDt (v : Level) : (opDecode v s).inDt = s.inDt := by simp only [opDecode]; split_ifs <;> simp
@[simp] theorem opDecode_inRst (v : Level) : (opDecode v s).inRst = s.inRst := by simp only [opDecode]; split_ifs <;> simp
@[simp] theorem opDecode_inBrk (v : Level) : (opDecode v s).inBrk = s.inBrk := by simp only [opDecode]; split_ifs <;> simp
@[simp] theorem opDecode_tcntCleared (v : Level) : (opDecode v s).tcntCleared = s.tcntCleared := by simp only [opDecode]; split_ifs <;> simp
@[simp] theorem opDecode_trace (v : Level) : (opDecode v s).trace = s.trace := by simp only [opDecode]; split_ifs <;> simp
@[simp] theorem opDecode_ports (v : Level) : (opDecode v s).ports = s.ports := by simp only [opDecode]; split_ifs <;> simp
@[simp] theorem opDecode_resetDone (v : Level) : (opDecode v s).resetDone = s.resetDone := by simp only [opDecode]; split_ifs <;> simp

@[simp] theorem opRender_cfg : (opRender s).cfg = s.cfg := by simp only [opRender]; split_ifs <;> simp
@[simp] theorem opRender_mode : (opRender s).mode = s.mode := by simp only [opRender]; split_ifs <;> simp
@[simp] theorem opRender_epat : (opRender s).epat = s.epat := by simp only [opRender]; split_ifs <;> simp
@[simp] theorem opRender_dpos : (opRender s).dpos = s.dpos := by simp only [opRender]; split_ifs <;> simp
@[simp] theorem opRender_clock : (opRender s).clock = s.clock := by simp only [opRender]; split_ifs <;> simp
@[simp] theorem opRender_lastResetTime : (opRender s).lastResetTime = s.lastResetTime := by simp only [opRender]; split_ifs <;> simp
@[simp] theorem opRender_clkLevel : (opRender s).clkLevel = s.clkLevel := by simp only [opRender]; split_ifs <;> simp
@[simp] theorem opRender_desync : (opRender s).desync = s.desync := by simp only [opRender]; split_ifs <;> simp
@[simp] theorem opRender_armed : (opRender s).armed = s.armed := by simp only [opRender]; split_ifs <;> simp
@[simp] theorem opRender_holdCounter : (opRender s).holdCounter = s.holdCounter := by simp only [opRender]; split_ifs <;> simp
@[simp] theorem opRender_dbgCount : (opRender s).dbgCount = s.dbgCount := by simp only [opRender]; split_ifs <;> simp
@[simp] theorem opRender_tphase : (opRender s).tphase = s.tphase := by simp only [opRender]; split_ifs <;> simp
@[simp] theorem opRender_inDt : (opRender s).inDt = s.inDt := by simp only [opRender]; split_ifs <;> simp
@[simp] theorem opRender_inRst : (opRender s).inRst = s.inRst := by simp only [opRender]; split_ifs <;> simp
@[simp] theorem opRender_inBrk : (opRender s).inBrk = s.inBrk := by simp only [opRender]; split_ifs <;> simp
@[simp] theorem opRender_tcntCleared : (opRender s).tcntCleared = s.tcntCleared := by simp only [opRender]; split_ifs <;> simp
@[simp] theorem opRender_trace : (opRender s).trace = s.trace := by simp only [opRender]; split_ifs <;> simp
@[simp] theorem opRender_ports : (opRender s).ports = s.ports := by simp only [opRender]; split_ifs <;> simp
@[simp] theorem opRender_resetDone : (opRender s).resetDone = s.resetDone := by simp only [opRender]; split_ifs <;> simp

@[simp] theorem opMirror_cfg : (opMirror s).cfg = s.cfg := by simp only [opMirror]; split_ifs <;> rfl
@[simp] theorem opMirror_mode : (opMirror s).mode = s.mode := by simp only [opMirror]; split_ifs <;> rfl
@[simp] theorem opMirror_epat : (opMirror s).epat = s.epat := by simp only [opMirror]; split_ifs <;> rfl
@[simp] theorem opMirror_dpos : (opMirror s).dpos = s.dpos := by simp only [opMirror]; split_ifs <;> rfl
@[simp] theorem opMirror_clock : (opMirror s).clock = s.clock := by simp only [opMirror]; split_ifs <;> rfl
@[simp] theorem opMirror_lastResetTime : (opMirror s).lastResetTime = s.lastResetTime := by simp only [opMirror]; split_ifs <;> rfl
@[simp] theorem opMirror_clkLevel : (opMirror s).clkLevel = s.clkLevel := by simp only [opMirror]; split_ifs <;> rfl
@[simp] theorem opMirror_desync : (opMirror s).desync = s.desync := by simp only [opMirror]; split_ifs <;> rfl
@[simp] theorem opMirror_armed : (opMirror s).armed = s.armed := by simp only [opMirror]; split_ifs <;> rfl
@[simp] theorem opMirror_holdCounter : (opMirror s).holdCounter = s.holdCounter := by simp only [opMirror]; split_ifs <;> rfl
@[simp] theorem opMirror_dbgCount : (opMirror s).dbgCount = s.dbgCount := by simp only [opMirror]; split_ifs <;> rfl
@[simp] theorem opMirror_seqActive : (opMirror s).seqActive = s.seqActive := by simp only [opMirror]; split_ifs <;> rfl
@[simp] theorem opMirror_seqStep : (opMirror s).seqStep = s.seqStep := by simp only [opMirror]; split_ifs <;> rfl
@[simp] theorem opMirror_seqTimer : (opMirror s).seqTimer = s.seqTimer := by simp only [opMirror]; split_ifs <;> rfl
@[simp] theorem opMirror_tphase : (opMirror s).tphase = s.tphase := by simp only [opMirror]; split_ifs <;> rfl
@[simp] theorem opMirror_inDt : (opMirror s).inDt = s.inDt := by simp only [opMirror]; split_ifs <;> rfl
@[simp] theorem opMirror_inRst : (opMirror s).inRst = s.inRst := by simp only [opMirror]; split_ifs <;> rfl
@[simp] theorem opMirror_inBrk : (opMirror s).inBrk = s.inBrk := by simp only [opMirror]; split_ifs <;> rfl
@[simp] theorem opMirror_tcntCleared : (opMirror s).tcntCleared = s.tcntCleared := by simp only [opMirror]; split_ifs <;> rfl
@[simp] theorem opMirror_trace : (opMirror s).trace = s.trace := by simp only [opMirror]; split_ifs <;> rfl
@[simp] theorem opMirror_ports : (opMirror s).ports = s.ports := by simp only [opMirror]; split_ifs <;> rfl
@[simp] theorem opMirror_resetDone : (opMirror s).resetDone = s.resetDone := by simp only [opMirror]; split_ifs <;> rfl

@[simp] theorem opResync_cfg : (opResync s).cfg = s.cfg := by simp only [opResync]; split_ifs <;> rfl
@[simp] theorem opResync_mode : (opResync s).mode = s.mode := by simp only [opResync]; split_ifs <;> rfl
@[simp] theorem opResync_epat : (opResync s).epat = s.epat := by simp only [opResync]; split_ifs <;> rfl
@[simp] theorem opResync_dpos : (opResync s).dpos = s.dpos := by simp only [opResync]; split_ifs <;> rfl
@[simp] theorem opResync_clock : (opResync s).clock = s.clock := by simp only [opResync]; split_ifs <;> rfl
@[simp] theorem opResync_lastResetTime : (opResync s).lastResetTime = s.lastResetTime := by simp only [opResync]; split_ifs <;> rfl
@[simp] theorem opResync_clkLevel : (opResync s).clkLevel = s.clkLevel := by simp only [opResync]; split_ifs <;> rfl
@[simp] theorem opResync_desync : (opResync s).desync = s.desync := by simp only [opResync]; split_ifs <;> rfl
@[simp] theorem opResync_dbgCount : (opResync s).dbgCount = s.dbgCount := by simp only [opResync]; split_ifs <;> rfl
@[simp] theorem opResync_out : (opResync s).out = s.out := by simp only [opResync]; split_ifs <;> rfl
@[simp] theorem opResync_seqActive : (opResync s).seqActive = s.seqActive := by simp only [opResync]; split_ifs <;> rfl
@[simp] theorem opResync_seqStep : (opResync s).seqStep = s.seqStep := by simp only [opResync]; split_ifs <;> rfl
@[simp] theorem opResync_seqTimer : (opResync s).seqTimer = s.seqTimer := by simp only [opResync]; split_ifs <;> rfl
@[simp] theorem opResync_tphase : (opResync s).tphase = s.tphase := by simp only [opResync]; split_ifs <;> rfl
@[simp] theorem opResync_inDt : (opResync s).inDt = s.inDt := by simp only [opResync]; split_ifs <;> rfl
@[simp] theorem opResync_inRst : (opResync s).inRst = s.inRst := by simp only [opResync]; split_ifs <;> rfl
@[simp] theorem opResync_inBrk : (opResync s).inBrk = s.inBrk := by simp only [opResync]; split_ifs <;> rfl
@[simp] theorem opResync_trace : (opResync s).trace = s.trace := by simp only [opResync]; split_ifs <;> rfl
@[simp] theorem opResync_ports : (opResync s).ports = s.ports := by simp only [opResync]; split_ifs <;> rfl
@[simp] theorem opResync_resetDone : (opResync s).resetDone = s.resetDone := by simp only [opResync]; split_ifs <;> rfl

@[simp] theorem opResetEdge_cfg (v : Level) : (opResetEdge v s).cfg = s.cfg := by simp only [opResetEdge]; split_ifs <;> simp
@[simp] theorem opResetEdge_dpos (v : Level) : (opResetEdge v s).dpos = s.dpos := by simp only [opResetEdge]; split_ifs <;> simp
@[simp] theorem opResetEdge_clkLevel (v : Level) : (opResetEdge v s).clkLevel = s.clkLevel := by simp only [opResetEdge]; split_ifs <;> simp
@[simp] theorem opResetEdge_desync (v : Level) : (opResetEdge v s).desync = s.desync := by simp only [opResetEdge]; split_ifs <;> simp
@[simp] theorem opResetEdge_tphase (v : Level) : (opResetEdge v s).tphase = s.tphase := by simp only [opResetEdge]; split_ifs <;> simp
@[simp] theorem opResetEdge_inDt (v : Level) : (opResetEdge v s).inDt = s.inDt := by simp only [opResetEdge]; split_ifs <;> simp
@[simp] theorem opResetEdge_inRst (v : Level) : (opResetEdge v s).inRst = s.inRst := by simp only [opResetEdge]; split_ifs <;> simp
@[simp] theorem opResetEdge_inBrk (v : Level) : (opResetEdge v s).inBrk = s.inBrk := by simp only [opResetEdge]; split_ifs <;> simp
@[simp] theorem opResetEdge_trace (v : Level) : (opResetEdge v s).trace = s.trace := by simp only [opResetEdge]; split_ifs <;> simp
@[simp] theorem opResetEdge_ports (v : Level) : (opResetEdge v s).ports = s.ports := by simp only [opResetEdge]; split_ifs <;> simp
@[simp] theorem opResetEdge_resetDone (v : Level) : (opResetEdge v s).resetDone = s.resetDone := by simp only [opResetEdge]; split_ifs <;> simp

end Sys2Proof.Machine
end

