-- ==== Sys2Proof/Laws/Ops.lean ====
section
/-! SUPPORT. What each shared operation and each operation of the opcode map can do, said once. -/

namespace Sys2Proof.Machine

/-! ## Words, windows, cycles -/

theorem subW_of_le {w a b : Nat} (hba : b ≤ a) (ha : a < 2 ^ w) : subW w a b = a - b := by
  have hb : b < 2 ^ w := by omega
  rw [subW, Nat.mod_eq_of_lt ha, Nat.mod_eq_of_lt hb,
    show a + (2 ^ w - b) = (a - b) + 2 ^ w by omega, Nat.add_mod_right, Nat.mod_eq_of_lt (by omega)]

theorem addW_lt (w a b : Nat) : addW w a b < 2 ^ w := Nat.mod_lt _ (Nat.two_pow_pos w)

theorem win_iff {lo hi p : Nat} : win lo hi p = true ↔ lo < p ∧ p ≤ hi := by simp [win]

theorem succN_debug (d : Fin nDebugPos) : succN d = d + 1 := by revert d; decide

theorem predN_debug (d : Fin nDebugPos) : predN d = d - 1 := by revert d; decide

theorem setFront_front (o : Lamps) (f : Level) : (setFront o f).getLsbD 0 = f := by
  revert o f; decide

theorem isEdge_iff {r v : Level} : isEdge r v = true ↔ v ≠ r := by simp [isEdge]

/-- The gate does not read the edge reference. -/
theorem gateOpen_inRst (s : State) (v : Level) : gateOpen { s with inRst := v } = gateOpen s := rfl

/-- Nor does the debug-entry window. -/
theorem qualifies_inRst (s : State) (v : Level) : qualifies { s with inRst := v } = qualifies s := rfl

/-! ## Configuration and fetch -/

/-- What a well-formed configuration says. -/
theorem wf_iff (c : Config) :
    c.wf = true ↔
      11 ≤ c.clockBits ∧ 0 < c.periodBlink ∧ 0 < c.periodAllSub ∧ 0 < c.periodSos ∧
      0 < c.seqSteps ∧ c.testSeqLut.length = c.seqSteps ∧ c.eventOrder.Perm allSources ∧
      0 < c.seqStepTicks ∧ 0 < c.debugPresses ∧ 0 < c.rotThresh := by
  simp only [Config.wf, Bool.and_eq_true, decide_eq_true_eq, and_assoc]

/-- A read inside the table is its entry. -/
theorem testSeqImage_of_entry {c : Config} {k : Nat} {image : Lamps} (h : c.testSeqLut[k]? = some image) :
    c.testSeqImage k = image := by simp [Config.testSeqImage, h]

/-- What the fetch changes: the inputs that wait, and nothing else. -/
theorem fetch_ok {s s' : State} {i : Instr} (h : fetch s = .ok (i, s')) :
    s.cfg.wf = true ∧ (s.resetDone = true ∨ i.isReset = true) ∧
      s' = { s with trace := s'.trace, ports := s'.ports } := by
  unfold fetch at h
  split_ifs at h with hw
  · refine ⟨hw, ?_⟩
    split at h
    · rename_i j u hn
      split_ifs at h with hr
      · obtain ⟨rfl, rfl⟩ : j = i ∧ u = s' := by simpa using h
        refine ⟨by simpa using hr, ?_⟩
        unfold nextOp at hn
        split at hn
        · split at hn
          · obtain ⟨rfl, rfl⟩ := by simpa using hn
            rfl
          · cases hn
        · unfold takeInstant at hn
          split at hn <;> (injection hn with hn; injection hn with _ hn; subst hn; rfl)
        · obtain ⟨rfl, rfl⟩ := by simpa using hn
          rfl
    · cases h

/-- A step that answers a next state is an operation on the state with some inputs taken off. -/
theorem step_next {s t : State} (h : step s = .next t) :
    ∃ (i : Instr) (trace : List Byte) (ports : List PortInputs),
      s.cfg.wf = true ∧ (s.resetDone = true ∨ i.isReset = true) ∧
      exec i { s with trace := trace, ports := ports } = .next t := by
  unfold step at h
  split at h
  · rename_i i s' hf
    obtain ⟨hw, hr, e⟩ := fetch_ok hf
    exact ⟨i, s'.trace, s'.ports, hw, hr, e ▸ h⟩
  · cases h

/-! ## Ports -/

theorem lineOp_self (v : Level) (mk : Level → Instr) : lineOp v v mk = none := by simp [lineOp, isEdge]

theorem brakeState_quiet (s : State) (tick : Bool) : brakeState s.cfg (quiet s tick).lines.brake = s.inBrk := by
  unfold brakeState quiet
  cases s.inBrk <;> cases s.cfg.brakeHeldLevel <;> rfl

/-- At a quiet instant only the main loop can have an operation. -/
theorem sourceOp_quiet (s : State) (tick : Bool) (e : EventSource) :
    sourceOp s (quiet s tick) e =
      if e = .mainLoop ∧ mainLoopDue s (quiet s tick) = true then some s.tphase.instr else none := by
  cases e with
  | ovf => rfl
  | rst => exact lineOp_self _ _
  | brk => rw [sourceOp, brakeState_quiet]; exact lineOp_self _ _
  | dt => exact lineOp_self _ _
  | clk => exact lineOp_self _ _
  | mainLoop => simp [sourceOp]

/-- Whatever the order, the operations of an instant are those of the default order, rearranged. -/
theorem portOps_perm {s : State} {p : PortInputs} (hw : s.cfg.wf = true) (hr : p.rstSys = false) :
    (portOps s p).Perm (allSources.filterMap (sourceOp s p)) := by
  rw [portOps, hr]
  exact ((wf_iff _).1 hw).2.2.2.2.2.2.1.filterMap _

/-- The operations of a quiet instant. -/
theorem portOps_quiet {s : State} (tick : Bool) (hw : s.cfg.wf = true) :
    portOps s (quiet s tick) = if tick = true ∨ s.tphase ≠ .render then [s.tphase.instr] else [] := by
  have h := portOps_perm (p := quiet s tick) hw rfl
  rw [funext (sourceOp_quiet s tick)] at h
  by_cases hd : tick = true ∨ s.tphase ≠ .render
  · have : mainLoopDue s (quiet s tick) = true := by simpa [mainLoopDue, quiet] using hd
    rw [if_pos hd]
    exact List.perm_singleton.1 (by simpa [this, allSources] using h)
  · have : mainLoopDue s (quiet s tick) = false := by simpa [mainLoopDue, quiet] using hd
    rw [if_neg hd]
    exact List.perm_nil.1 (by simpa [this, allSources] using h)

/-! ## The operations of the opcode map -/

@[simp] theorem exec_nop (s : State) : exec .nop s = execNop s := rfl
@[simp] theorem exec_pinClk (v : Level) (s : State) : exec (.pinClk v) s = execPinClk v s := rfl
@[simp] theorem exec_pinDt (v : Level) (s : State) : exec (.pinDt v) s = execPinDt v s := rfl
@[simp] theorem exec_pinRst (v : Level) (s : State) : exec (.pinRst v) s = execPinRst v s := rfl
@[simp] theorem exec_pinBrk (v : Level) (s : State) : exec (.pinBrk v) s = execPinBrk v s := rfl
@[simp] theorem exec_ovf (s : State) : exec .ovf s = execOvf s := rfl
@[simp] theorem exec_render (s : State) : exec .render s = execRender s := rfl
@[simp] theorem exec_mirror (s : State) : exec .mirror s = execMirror s := rfl
@[simp] theorem exec_resync (s : State) : exec .resync s = execResync s := rfl
@[simp] theorem exec_advance (s : State) : exec .advance s = execAdvance s := rfl
@[simp] theorem exec_reset (b r d k : Level) (s : State) : exec (.reset b r d k) s = execReset b r d k s := rfl

/-- A main-loop micro-operation answers a next state exactly when it is in turn. -/
theorem inTurn_next_iff {p : TPhase} {f : State → State} {s t : State} :
    inTurn p f s = .next t ↔ s.tphase = p ∧ t = { f s with tphase := p.next } := by
  unfold inTurn
  split_ifs with h
  · simp [h, eq_comm]
  · simp [h]

/-- A main-loop micro-operation is refused exactly when it is out of turn. -/
theorem inTurn_of_ne {p : TPhase} {f : State → State} {s : State} (h : s.tphase ≠ p) :
    inTurn p f s = .refused (.outOfTurn p s.tphase) := by simp [inTurn, h]

/-- What PIN.RST can answer. -/
theorem execPinRst_cases {v : Level} {s t : State} (h : execPinRst v s = .next t) :
    (v = s.inRst ∧ t = s) ∨
    (v ≠ s.inRst ∧ gateOpen s = false ∧ t = { s with inRst := v }) ∨
    (v ≠ s.inRst ∧ gateOpen s = true ∧ isPressed s.cfg v = true ∧ t = opPress { s with inRst := v }) ∨
    (v ≠ s.inRst ∧ gateOpen s = true ∧ isPressed s.cfg v = false ∧ t = opRelease { s with inRst := v }) := by
  by_cases hv : v = s.inRst
  · rw [execPinRst, if_neg (by simp [isEdge, hv])] at h
    injection h with h
    exact .inl ⟨hv, h.symm⟩
  rw [execPinRst, if_pos (isEdge_iff.2 hv)] at h
  by_cases hg : gateOpen s = true
  · simp only [gateOpen_inRst, hg, if_true] at h
    injection h with h
    by_cases hp : isPressed s.cfg v = true
    · rw [opResetEdge, if_pos (by exact hp)] at h
      exact .inr (.inr (.inl ⟨hv, hg, hp, h.symm⟩))
    · rw [opResetEdge, if_neg (by exact hp)] at h
      exact .inr (.inr (.inr ⟨hv, hg, by simpa using hp, h.symm⟩))
  · simp only [gateOpen_inRst, hg] at h
    injection h with h
    exact .inr (.inl ⟨hv, by simpa using hg, h.symm⟩)

/-- What PIN.CLK can answer. -/
theorem execPinClk_cases {v : Level} {s t : State} (h : execPinClk v s = .next t) :
    (v = s.clkLevel ∧ t = s) ∨
    (v ≠ s.clkLevel ∧ s.mode = .emergency ∧ t = { s with clkLevel := v }) ∨
    (v ≠ s.clkLevel ∧ s.mode ≠ .emergency ∧ t = { opDecode v s with clkLevel := v }) := by
  unfold execPinClk at h
  split_ifs at h <;> simp_all [isEdge]

/-- What the decoder's steps 1 to 3 can do. -/
theorem opDecode_cases (v : Level) (s : State) :
    (vote s v ≤ -(s.cfg.rotThresh : Int) ∧
      opDecode v s = opRotateLeft { s with desync := 0, clock := 0 }) ∨
    (¬ vote s v ≤ -(s.cfg.rotThresh : Int) ∧ (s.cfg.rotThresh : Int) ≤ vote s v ∧
      opDecode v s = opRotateRight { s with desync := 0, clock := 0 }) ∨
    (-(s.cfg.rotThresh : Int) < vote s v ∧ vote s v < (s.cfg.rotThresh : Int) ∧
      opDecode v s = { s with desync := vote s v }) := by
  unfold opDecode
  split_ifs with h1 h2
  · exact .inl ⟨h1, rfl⟩
  · exact .inr (.inl ⟨h1, h2, rfl⟩)
  · exact .inr (.inr ⟨by omega, by omega, rfl⟩)

/-- What OVF can answer. -/
theorem execOvf_cases {s t : State} (h : execOvf s = .next t) :
    (s.armed = false ∧ t = s) ∨
    (s.armed = true ∧ s.holdCounter + 1 ≤ s.cfg.holdLimit ∧
      t = { s with holdCounter := s.holdCounter + 1, tcntCleared := false }) ∨
    (s.armed = true ∧ s.cfg.holdLimit < s.holdCounter + 1 ∧
      t = opLongPress (opDisarm { s with holdCounter := s.holdCounter + 1, tcntCleared := false })) := by
  by_cases h1 : s.armed = true
  · by_cases h2 : s.cfg.holdLimit < s.holdCounter + 1
    · rw [execOvf, if_pos h1, if_pos (by exact h2)] at h
      exact .inr (.inr ⟨h1, h2, by injection h with h; exact h.symm⟩)
    · rw [execOvf, if_pos h1, if_neg (by exact h2)] at h
      exact .inr (.inl ⟨h1, by omega, by injection h with h; exact h.symm⟩)
  · rw [execOvf, if_neg h1] at h
    exact .inl ⟨by simpa using h1, by injection h with h; exact h.symm⟩

/-- What DBGENTRY can do. -/
theorem opDbgEntry_cases (s : State) :
    (promotes s ∧ opDbgEntry s = opPromote s) ∨
    (s.inBrk = HELD ∧ s.mode = .debug ∧ opDbgEntry s = s) ∨
    (s.inBrk = HELD ∧ s.mode ≠ .debug ∧ qualifies s = true ∧ s.dbgCount + 1 < s.cfg.debugPresses ∧
      opDbgEntry s = { s with dbgCount := s.dbgCount + 1 }) ∨
    (s.inBrk = HELD ∧ s.mode ≠ .debug ∧ qualifies s = false ∧ opDbgEntry s = { s with dbgCount := 0 }) ∨
    (s.inBrk = RELEASED ∧ opDbgEntry s = { s with dbgCount := 0 }) := by
  unfold opDbgEntry promotes
  split_ifs with h1 h2 h3 h4 <;> simp_all

/-- What SEQSTEP can do. -/
theorem opSeqStep_cases (s : State) :
    (s.seqTimer + 1 ≠ s.cfg.seqStepTicks ∧
      opSeqStep s = { s with out := s.cfg.testSeqImage s.seqStep, seqTimer := s.seqTimer + 1 }) ∨
    (s.seqTimer + 1 = s.cfg.seqStepTicks ∧ s.seqStep = s.cfg.seqSteps - 1 ∧
      opSeqStep s =
        { s with out := s.cfg.testSeqImage s.seqStep, seqTimer := 0, seqActive := false, seqStep := 0 }) ∨
    (s.seqTimer + 1 = s.cfg.seqStepTicks ∧ s.seqStep ≠ s.cfg.seqSteps - 1 ∧
      opSeqStep s =
        { s with out := s.cfg.testSeqImage s.seqStep, seqTimer := 0, seqStep := s.seqStep + 1 }) := by
  simp only [opSeqStep]
  split_ifs with h1 h2
  · exact .inr (.inl ⟨h1, h2, rfl⟩)
  · exact .inr (.inr ⟨h1, h2, rfl⟩)
  · exact .inl ⟨h1, rfl⟩

/-! ## The fields the internal operations write by cases -/

theorem opRotateLeft_mode (s : State) : (opRotateLeft s).mode = if s.mode = .debug then .debug else .left := by
  unfold opRotateLeft; split_ifs with h <;> simp [h]

theorem opRotateLeft_dpos (s : State) :
    (opRotateLeft s).dpos = if s.mode = .debug then s.dpos - 1 else s.dpos := by
  unfold opRotateLeft; split_ifs <;> simp [predN_debug]

theorem opRotateRight_mode (s : State) : (opRotateRight s).mode = if s.mode = .debug then .debug else .right := by
  unfold opRotateRight; split_ifs with h <;> simp [h]

theorem opRotateRight_dpos (s : State) :
    (opRotateRight s).dpos = if s.mode = .debug then s.dpos + 1 else s.dpos := by
  unfold opRotateRight; split_ifs <;> simp [succN_debug]

theorem opLongPress_mode (s : State) :
    (opLongPress s).mode = if s.mode = .emergency ∨ s.mode = .debug then .off else .emergency := by
  cases h : s.mode <;> simp [opLongPress, h]

theorem opDbgEntry_mode (s : State) : (opDbgEntry s).mode = if promotes s then .debug else s.mode := by
  rcases opDbgEntry_cases s with ⟨h, e⟩ | ⟨_, h, e⟩ | ⟨_, _, _, h, e⟩ | ⟨_, _, h, e⟩ | ⟨h, e⟩ <;> rw [e] <;>
    simp_all [promotes]

theorem opDbgEntry_dbgCount (s : State) :
    (opDbgEntry s).dbgCount =
      if promotes s ∨ s.inBrk = RELEASED then 0 else if s.mode = .debug then s.dbgCount
      else if qualifies s = true then s.dbgCount + 1 else 0 := by
  rcases opDbgEntry_cases s with ⟨h, e⟩ | ⟨_, h, e⟩ | ⟨_, _, _, h, e⟩ | ⟨_, _, h, e⟩ | ⟨h, e⟩ <;> rw [e] <;>
    simp_all [promotes]

theorem opDbgEntry_seq (s : State) :
    (opDbgEntry s).out = (if promotes s then s.cfg.testSeqImage 0 else s.out) ∧
    (opDbgEntry s).seqActive = (if promotes s then true else s.seqActive) ∧
    (opDbgEntry s).seqStep = (if promotes s then 0 else s.seqStep) ∧
    (opDbgEntry s).seqTimer = (if promotes s then 0 else s.seqTimer) := by
  rcases opDbgEntry_cases s with ⟨h, e⟩ | ⟨_, h, e⟩ | ⟨_, _, _, h, e⟩ | ⟨_, _, h, e⟩ | ⟨h, e⟩ <;> rw [e] <;>
    simp_all [promotes]

theorem opPressMode_mode (s : State) :
    (opPressMode s).mode = if s.mode = .emergency ∨ s.mode = .debug then s.mode else .off := by
  unfold opPressMode; split <;> simp_all

theorem opPressMode_clock (s : State) :
    (opPressMode s).clock = if s.mode = .emergency then 0 else s.clock := by
  unfold opPressMode; split <;> simp_all

theorem opPressMode_epat (s : State) :
    (opPressMode s).epat = if s.mode = .emergency then s.epat.next else s.epat := by
  unfold opPressMode; split <;> simp_all

theorem opPress_mode (s : State) :
    (opPress s).mode =
      if promotes s then .debug else if s.mode = .emergency ∨ s.mode = .debug then s.mode else .off := by
  simp only [opPress, opArm_mode, opPressMode_mode, opDbgEntry_mode]
  split_ifs <;> simp_all

theorem opPress_clock (s : State) :
    (opPress s).clock = if s.mode = .emergency ∧ ¬ promotes s then 0 else s.clock := by
  simp only [opPress, opArm_clock, opPressMode_clock, opDbgEntry_mode, opDbgEntry_clock]
  by_cases h : promotes s
  · rw [if_pos h, if_neg (by simp), if_neg (fun hm => hm.2 h)]
  · rw [if_neg h, if_congr (and_iff_left h) rfl rfl]

theorem opPress_epat (s : State) :
    (opPress s).epat = if s.mode = .emergency ∧ ¬ promotes s then s.epat.next else s.epat := by
  simp only [opPress, opArm_epat, opPressMode_epat, opDbgEntry_mode, opDbgEntry_epat]
  by_cases h : promotes s
  · rw [if_pos h, if_neg (by simp), if_neg (fun hm => hm.2 h)]
  · rw [if_neg h, if_congr (and_iff_left h) rfl rfl]

theorem opPress_dbgCount (s : State) :
    (opPress s).dbgCount =
      if promotes s ∨ s.inBrk = RELEASED then 0 else if s.mode = .debug then s.dbgCount
      else if qualifies s = true then s.dbgCount + 1 else 0 := by
  simp only [opPress, opArm_dbgCount, opPressMode_dbgCount, opDbgEntry_dbgCount]

theorem opPress_seq (s : State) :
    (opPress s).out = (if promotes s then s.cfg.testSeqImage 0 else s.out) ∧
    (opPress s).seqActive = (if promotes s then true else s.seqActive) ∧
    (opPress s).seqStep = (if promotes s then 0 else s.seqStep) ∧
    (opPress s).seqTimer = (if promotes s then 0 else s.seqTimer) := by
  simpa [opPress] using opDbgEntry_seq s

/-! ## Runs -/

@[simp] theorem runOps_nil (s : State) : runOps [] s = .next s := rfl

theorem runOps_cons (i : Instr) (ops : List Instr) (s : State) :
    runOps (i :: ops) s =
      match exec i s with
      | .next s' => runOps ops s'
      | .fault r => .fault r
      | .refused r => .refused r := rfl

theorem runOps_cons_next {i : Instr} {ops : List Instr} {s s' : State} (h : exec i s = .next s') :
    runOps (i :: ops) s = runOps ops s' := by rw [runOps_cons, h]

theorem runOps_append (ops₁ ops₂ : List Instr) (s : State) :
    runOps (ops₁ ++ ops₂) s =
      match runOps ops₁ s with
      | .next s' => runOps ops₂ s'
      | .fault r => .fault r
      | .refused r => .refused r := by
  induction ops₁ generalizing s with
  | nil => rfl
  | cons i rest ih =>
    simp only [List.cons_append, runOps_cons]
    cases exec i s with
    | next s' => exact ih s'
    | fault r => rfl
    | refused r => rfl

/-- A run that ends in a next state began with an operation that did. -/
theorem runOps_cons_next_iff {i : Instr} {ops : List Instr} {s t : State} :
    runOps (i :: ops) s = .next t ↔ ∃ s', exec i s = .next s' ∧ runOps ops s' = .next t := by
  rw [runOps_cons]
  cases h : exec i s <;> simp

end Sys2Proof.Machine
end

