-- ==== Sys2Proof/Laws/PerInstr.lean ====
section
/-! SUPPORT. Statements made per operation. -/

namespace Sys2Proof.Laws

/-- Decoding an operation's word gives the operation back, with every operand at every value. -/
def RoundTrip.Statement (i : Instr) : Prop := i.wf = true → decodeWord (encode i) = .ok i

theorem RoundTrip.nop : RoundTrip.Statement .nop := fun _ => rfl
theorem RoundTrip.pinClk (v : Level) : RoundTrip.Statement (.pinClk v) := by cases v <;> exact fun _ => rfl
theorem RoundTrip.pinDt (v : Level) : RoundTrip.Statement (.pinDt v) := by cases v <;> exact fun _ => rfl
theorem RoundTrip.pinRst (v : Level) : RoundTrip.Statement (.pinRst v) := by cases v <;> exact fun _ => rfl
theorem RoundTrip.pinBrk (v : Level) : RoundTrip.Statement (.pinBrk v) := by cases v <;> exact fun _ => rfl
theorem RoundTrip.ovf : RoundTrip.Statement .ovf := fun _ => rfl
theorem RoundTrip.render : RoundTrip.Statement .render := fun _ => rfl
theorem RoundTrip.mirror : RoundTrip.Statement .mirror := fun _ => rfl
theorem RoundTrip.resync : RoundTrip.Statement .resync := fun _ => rfl
theorem RoundTrip.advance : RoundTrip.Statement .advance := fun _ => rfl
theorem RoundTrip.reset (brk0 rst0 dt0 clk0 : Level) :
    RoundTrip.Statement (.reset brk0 rst0 dt0 clk0) := by
  cases brk0 <;> cases rst0 <;> cases dt0 <;> cases clk0 <;> exact fun _ => rfl

end Sys2Proof.Laws
end

