-- ==== Sys2Proof/Tests/Slice0.lean ====
section
/-! SUPPORT. Tests: ill-formed terms are refused; every operation's word, written out from 30_encoding.md R59; one step
of every operation with the result of 95_test_vectors.md (its number stands in each name or comment); and for every
statement that has hypotheses a witness that meets them. -/

namespace Sys2Proof.Tests

open Sys2Proof.Machine

/-- State Z of 95_test_vectors.md: the state after `RESET 0 1 1 1`, default configuration. -/
abbrev Z : State := State.reset

/-- State Z at clock `c` with the last accepted edge at `l`. -/
def at_ (c l : Nat) : State := { Z with clock := c, lastResetTime := l }

/-- Does an outcome answer exactly this next state? -/
def gives (o : Host.Outcome State Fault Refusal) (t : State) : Bool :=
  match o with
  | .next u => decide (u = t)
  | .fault _ | .refused _ => false

/-- Does an outcome refuse for exactly this reason? -/
def refuses (o : Host.Outcome State Fault Refusal) (r : Refusal) : Bool :=
  match o with
  | .refused q => decide (q = r)
  | .next _ | .fault _ => false

theorem next_of_gives {o : Host.Outcome State Fault Refusal} {t : State} (h : gives o t = true) : o = .next t := by
  cases o <;> simp_all [gives]

/-! ## Well-formedness: one ill-formed term for each check -/

theorem test_wf_clockBits : ({ defaultConfig with clockBits := 10 } : Config).wf = false := by decide
theorem test_wf_periodBlink : ({ defaultConfig with periodBlink := 0 } : Config).wf = false := by decide
theorem test_wf_periodAllSub : ({ defaultConfig with periodAllSub := 0 } : Config).wf = false := by decide
theorem test_wf_periodSos : ({ defaultConfig with periodSos := 0 } : Config).wf = false := by decide
theorem test_wf_seqSteps :
    ({ defaultConfig with seqSteps := 0, testSeqLut := [] } : Config).wf = false := by decide
theorem test_wf_testSeqLut : ({ defaultConfig with seqSteps := 14 } : Config).wf = false := by decide
theorem test_wf_eventOrder :
    ({ defaultConfig with eventOrder := [.ovf, .rst, .brk, .dt, .clk] } : Config).wf = false ∧
    ({ defaultConfig with eventOrder := [.mainLoop, .clk, .dt, .brk, .rst, .ovf] } : Config).wf = true := by decide
theorem test_wf_seqStepTicks : ({ defaultConfig with seqStepTicks := 0 } : Config).wf = false := by decide
theorem test_wf_debugPresses : ({ defaultConfig with debugPresses := 0 } : Config).wf = false := by decide
theorem test_wf_rotThresh : ({ defaultConfig with rotThresh := 0 } : Config).wf = false := by decide
theorem test_wf_default : defaultConfig.wf = true ∧ ({ defaultConfig with clockBits := 11 } : Config).wf = true := by
  decide
theorem test_wf_trace_out_of_turn : traceInTurn .render [.mirror] = false := by decide
theorem test_wf_trace_reset_restarts_the_tick :
    traceInTurn .resync [.resync, .reset RELEASED HIGH HIGH HIGH, .render, .ovf, .mirror] = true := by decide
theorem test_wf_trace_before_reset : tracePowerOn [.render] = false := by decide

/-- A configuration with too few clock bits: no step. -/
theorem test_step_refuses_configuration :
    refuses (step { Z with cfg := { defaultConfig with clockBits := 10 } }) .badConfiguration = true := by decide

/-! ## Decoding: the words of R59, bit by bit -/

theorem test_decode_nop : decodeWord 0b00000000 = .ok .nop := rfl
theorem test_decode_pinClk : decodeWord 0b00010001 = .ok (.pinClk HIGH) := rfl
theorem test_decode_pinDt : decodeWord 0b00100001 = .ok (.pinDt HIGH) := rfl
theorem test_decode_pinRst : decodeWord 0b00110000 = .ok (.pinRst LOW) := rfl
theorem test_decode_pinBrk : decodeWord 0b01000001 = .ok (.pinBrk HELD) := rfl
theorem test_decode_ovf : decodeWord 0b01010000 = .ok .ovf := rfl
theorem test_decode_render : decodeWord 0b10000000 = .ok .render := rfl
theorem test_decode_mirror : decodeWord 0b10010000 = .ok .mirror := rfl
theorem test_decode_resync : decodeWord 0b10100000 = .ok .resync := rfl
theorem test_decode_advance : decodeWord 0b10110000 = .ok .advance := rfl
/-- `1111 bsdc` with brake held, button up, DT low, CLK low. -/
theorem test_decode_reset : decodeWord 0b11111100 = .ok (.reset HELD HIGH LOW LOW) := rfl
/-- The reserved words 95_test_vectors.md names. -/
theorem test_decode_reserved :
    [0x60, 0x70, 0xC0, 0xD0, 0xE0].map decodeWord = List.replicate 5 (.error .reservedOpcode) := rfl
theorem test_decode_pad :
    [0x12, 0x38, 0x4F, 0x01, 0x51, 0x88, 0xBF].map decodeWord = List.replicate 7 (.error .nonzeroPad) := rfl
theorem test_decode_table_word : decodeTableWord 8 0xFA = some (.reset HELD LOW HIGH LOW) := by decide
theorem test_encode_reset : encode (.reset HELD LOW HIGH LOW) = 0xFA#8 := by decide

/-! ## One step of every operation -/

/-- V33. -/
theorem test_nop :
    gives (exec .nop { Z with mode := .right, clock := 77 }) { Z with mode := .right, clock := 77 } = true := by decide

/-- V2: an accepted press from Off. -/
theorem test_pinRst_press :
    gives (exec (.pinRst LOW) (at_ 100 40))
      { at_ 100 100 with armed := true, inRst := LOW } = true := by decide

/-- V18h: a promotion from Emergency leaves `epat` and `clock`. -/
theorem test_pinRst_promotes :
    gives (exec (.pinRst LOW) { at_ 500 470 with mode := .emergency, dbgCount := 10, inBrk := HELD })
      { at_ 500 500 with
        mode := .debug, armed := true, dbgCount := 0, out := 0x1F, seqActive := true, inRst := LOW,
        inBrk := HELD } = true := by decide

/-- V19, first word. -/
theorem test_pinBrk_release :
    gives (exec (.pinBrk RELEASED) { Z with dbgCount := 7, inBrk := HELD }) Z = true := by decide

/-- V20, first word: nothing but the sample. -/
theorem test_pinDt :
    gives (exec (.pinDt LOW) { Z with mode := .emergency, desync := 1 })
      { Z with mode := .emergency, desync := 1, inDt := LOW } = true := by decide

/-- V14b: one agreeing edge on top of `desync` = 1 turns right. -/
theorem test_pinClk_right :
    gives (exec (.pinClk LOW) { Z with desync := 1, clock := 77, inDt := LOW })
      { Z with mode := .right, clkLevel := LOW, inDt := LOW } = true := by decide

/-- V15a, its third word: a left turn in Debug wraps 0 to 10. -/
theorem test_pinClk_debug_left :
    gives (exec (.pinClk HIGH) { Z with mode := .debug, clock := 300, desync := -1, clkLevel := LOW, inDt := LOW })
      { Z with mode := .debug, dpos := 10, inDt := LOW } = true := by decide

/-- V34a: the 51st overflow. -/
theorem test_ovf_fires :
    gives (exec .ovf { at_ 40 20 with mode := .left, inRst := LOW, armed := true, holdCounter := 50 })
      { at_ 40 20 with mode := .emergency, inRst := LOW } = true := by decide

/-- R83's example: the 50th overflow only counts. -/
theorem test_ovf_counts :
    gives (exec .ovf { at_ 40 20 with inRst := LOW, armed := true, holdCounter := 49, tcntCleared := false })
      { at_ 40 20 with inRst := LOW, armed := true, holdCounter := 50, tcntCleared := false } = true := by decide

/-- V23a: the front light survives a Left render. -/
theorem test_render_left :
    gives (exec .render { Z with mode := .left, clock := 120, out := 0x01 })
      { Z with mode := .left, clock := 120, out := 0x0B, tphase := .mirror } = true := by decide

/-- V21a: a step of the test sequence ends. -/
theorem test_render_sequence :
    gives (exec .render { Z with mode := .debug, seqActive := true, seqStep := 3, seqTimer := 59, clock := 700 })
      { Z with mode := .debug, seqActive := true, seqStep := 4, clock := 700, tphase := .mirror } = true := by decide

/-- V24a. -/
theorem test_mirror :
    gives (exec .mirror { Z with inBrk := HELD, tphase := .mirror })
      { Z with inBrk := HELD, out := 0x01, tphase := .resync } = true := by decide

/-- V24c: not in Debug. -/
theorem test_mirror_debug :
    gives (exec .mirror { Z with mode := .debug, out := 0x02, inBrk := HELD, tphase := .mirror })
      { Z with mode := .debug, out := 0x02, inBrk := HELD, tphase := .resync } = true := by decide

/-- V25a: distance 16 disarms. -/
theorem test_resync_disarms :
    gives (exec .resync { at_ 116 100 with armed := true, holdCounter := 20, tphase := .resync })
      { at_ 116 100 with tphase := .advance } = true := by decide

/-- V25b: distance 15 does not. -/
theorem test_resync_gate_shut :
    gives (exec .resync { at_ 115 100 with armed := true, holdCounter := 20, tphase := .resync })
      { at_ 115 100 with armed := true, holdCounter := 20, tphase := .advance } = true := by decide

/-- V26a. -/
theorem test_advance :
    gives (exec .advance { Z with clock := 499, tphase := .advance }) { Z with clock := 500 } = true := by decide

/-- V26b: the last value wraps. -/
theorem test_advance_wraps :
    gives (exec .advance { Z with clock := 4294967295, tphase := .advance }) Z = true := by decide

/-- V28b from the start state of V28a: every register is written. -/
theorem test_reset :
    gives
      (exec (.reset HELD LOW HIGH LOW)
        { Z with
          mode := .debug, epat := .sos, dpos := 9, clock := 98765, lastResetTime := 4321, clkLevel := LOW,
          desync := -1, armed := true, holdCounter := 33, out := 0x1F, seqActive := true, seqStep := 7,
          seqTimer := 30, tphase := .resync, inDt := LOW, inRst := LOW, inBrk := HELD, tcntCleared := false })
      { Z with clkLevel := LOW, inRst := LOW, inBrk := HELD } = true := by decide

/-- V1's row "distance 10 across a true wrap". -/
theorem test_accept_wrap : accept 32 5 4294967291 15 = true ∧ accept 32 0 5 15 = true ∧ accept 32 5 5 15 = false := by
  decide

/-- V22: three points of All and two of Sos. -/
theorem test_patterns :
    [250, 251, 249].map (fun k => (pg defaultConfig .emergency .all 0 k).2) = [0x00, 0x15, 0x0B] ∧
    [1500, 1501].map (fun k => (pg defaultConfig .emergency .sos 0 k).2) = [0x1E, 0x00] := by decide

/-! ## The step and the trace -/

theorem test_step_fetches : gives (step { Z with trace := [0x41, 0x80] }) { Z with inBrk := HELD, trace := [0x80] } = true := by
  decide
/-- R43: the strobe starts a tick; R113: without it nothing happens between two ticks. -/
theorem test_step_tick_strobe :
    gives (step { Z with ports := [quiet Z true] }) { Z with tphase := .mirror } = true ∧
    gives (step { Z with ports := [quiet Z false] }) Z = true ∧ gives (step Z) Z = true := by decide
/-- A tick that has begun goes on without a strobe. -/
theorem test_step_tick_goes_on :
    gives (step { Z with tphase := .advance, ports := [quiet Z false] }) { Z with clock := 1 } = true := by decide
/-- R43, R58: `rst_sys` takes the live levels, a LOW brake pin being HELD by default. -/
theorem test_step_rst_sys :
    gives (step { Z with mode := .debug, resetDone := false, ports := [⟨⟨LOW, HIGH, LOW, LOW⟩, true, true, true⟩] })
      { Z with clkLevel := LOW, inRst := LOW, inBrk := HELD } = true := by decide
theorem test_step_reserved : refuses (step { Z with trace := [0x60] }) (.reservedOpcode 0x60) = true := by decide
theorem test_step_out_of_turn : refuses (step { Z with trace := [0x90] }) (.outOfTurn .mirror .render) = true := by decide
theorem test_step_before_reset :
    refuses (step { Z with resetDone := false, trace := [0x80] }) .beforeReset = true := by decide
theorem test_withFetchWord :
    gives (step (Z.withFetchWord 8 0xB0)) { Z with clock := 1 } = true := by decide
/-- R127's default order. -/
theorem test_coincident_order :
    portOps { Z with armed := true } ⟨⟨LOW, LOW, LOW, LOW⟩, true, true, false⟩ =
      [.ovf, .pinRst LOW, .pinBrk HELD, .pinDt LOW, .pinClk LOW, .render] := by decide
theorem test_inVector : inVector Z = 0b0111#4 := by decide
theorem test_script :
    scriptOps (.times 2 (.op .ovf .done) (.pseudo .pressBtn .done)) = [.ovf, .ovf, .pinRst LOW] := by decide

/-! ## Witnesses: states and operands that meet the hypotheses of each statement -/

/-- The invariants hold in a state that is not the one after reset: a long hold in Emergency. -/
theorem witness_Inv : Inv { at_ 100 40 with
    mode := .emergency, armed := true, holdCounter := 3, tcntCleared := false, desync := -1, inRst := LOW,
    dbgCount := 10, seqActive := true, seqStep := 14, seqTimer := 59 } := by
  constructor <;> decide

theorem witness_SourceValues : SourceValues defaultConfig := by constructor <;> rfl

theorem witness_TraceDecodeEncodeAgree :
    (∀ i ∈ [Instr.reset HELD LOW HIGH LOW, .render], i.wf = true) ∧
    decodeTrace [0xFA, 0x80] = .ok [.reset HELD LOW HIGH LOW, .render] := ⟨by decide, rfl⟩

/-- A row for each format, and words that no row matches. -/
theorem witness_DecoderFollowsTheOpcodeMap :
    ⟨"PIN.CLK", 0x10, 0xFE⟩ ∈ opcodeMap ∧ ⟨"OVF", 0x50, 0xFF⟩ ∈ opcodeMap ∧ ⟨"RESET", 0xF0, 0xF0⟩ ∈ opcodeMap ∧
    (∀ r ∈ opcodeMap, 0x12#8 &&& r.mask ≠ r.word) ∧
    decodeWord 0x20 = .ok (.pinDt LOW) ∧ decodeWord 0xFF = .ok (.reset HELD HIGH HIGH HIGH) :=
  ⟨by decide, by decide, by decide, by decide, rfl, rfl⟩

/-- Every clause of the statement: the words are 0x70, 0x4E, 0x01 and the five legal ones. -/
theorem witness_ReservedAndOutOfTurnWordsAreRefused :
    Z.cfg.wf = true ∧ Z.resetDone = true ∧ { Z with trace := [0x70] }.trace = 0x70#8 :: [] ∧
    0x70#8 >>> 4 = 0b0111#8 ∧ 0x4E#8 >>> 4 = 0b0100#8 ∧ 0x4E#8 &&& 0b00001110#8 ≠ 0#8 ∧
    0x01#8 >>> 4 = 0b0000#8 ∧ 0x01#8 &&& 0b00001111#8 ≠ 0#8 ∧
    { Z with tphase := .advance }.tphase ≠ .render ∧ Z.tphase ≠ .mirror ∧ Z.tphase ≠ .resync ∧
    Z.tphase ≠ .advance ∧ Z.armed = false := by decide

theorem witness_RegisterEncodings : 5 ≤ (5#3).toNat ∧ 5 ≤ (7#3).toNat ∧ 11 ≤ (11#4).toNat ∧ 11 ≤ (15#4).toNat := by
  decide

/-- A word waiting, and none waiting with two operations at one instant. -/
theorem witness_StepRunsTheNextOperationOfTheTrace :
    Z.cfg.wf = true ∧ (Z.resetDone = true ∨ Instr.ovf.isReset = true) ∧
    { Z with trace := [0x50] }.trace = 0x50#8 :: [] ∧ decodeWord 0x50 = .ok .ovf ∧
    (let p : PortInputs := ⟨⟨LOW, HIGH, LOW, HIGH⟩, false, false, false⟩
     let s := { Z with ports := [p] }
     s.trace = [] ∧ s.ports = p :: [] ∧ portOps s p = [.pinRst LOW, .pinClk LOW]) :=
  ⟨by decide, by decide, rfl, rfl, by decide⟩

/-- A strobe, a tick in progress, the wait between two ticks, and no input. -/
theorem witness_StepWithoutEventRunsTheMainLoop :
    Z.cfg.wf = true ∧ Z.resetDone = true ∧ Z.trace = [] ∧ Z.ports = [] ∧ Z.tphase = .render ∧
    { Z with ports := [quiet Z true] }.ports = quiet { Z with ports := [quiet Z true] } true :: [] ∧
    { Z with tphase := .resync }.tphase ≠ .render ∧
    { Z with ports := [quiet Z false] }.ports = quiet { Z with ports := [quiet Z false] } false :: [] := by decide

/-- One state for each clause: a word, an empty trace with no instant, with one and with `rst_sys`, too few clock bits. -/
theorem witness_StepRefusesBeforeResetAndBadConfiguration :
    decodeWord 0x50 = .ok .ovf ∧ decodeWord 0xF7 = .ok (.reset RELEASED HIGH HIGH HIGH) ∧
    { Z with resetDone := false }.cfg.wf = true ∧ { Z with resetDone := false }.resetDone = false ∧
    Instr.ovf.isReset = false ∧ (Instr.reset RELEASED HIGH HIGH HIGH).isReset = true ∧
    { Z with resetDone := false }.trace = [] ∧ { Z with resetDone := false }.ports = [] ∧
    (quiet Z true).rstSys = false ∧ { quiet Z true with rstSys := true }.rstSys = true ∧
    { Z with cfg := { defaultConfig with clockBits := 10 } }.cfg.clockBits < 11 :=
  ⟨rfl, rfl, by decide, rfl, rfl, rfl, rfl, rfl, rfl, rfl, by decide⟩

theorem witness_PlacedWordRunsNext : Z.cfg.wf = true := by decide

theorem witness_PinRstResult :
    Z.cfg.rstPressedLevel = LOW ∧ gateOpen (at_ 15 0) = false ∧ gateOpen (at_ 16 0) = true := by decide

/-- A press that does not promote, and one that does. -/
theorem witness_PressResult :
    Z.cfg.rstPressedLevel = LOW ∧ Z.cfg.debugPresses = 11 ∧ Z.cfg.testSeqLut[0]? = some 0x1F ∧ Z.inRst = HIGH ∧
    gateOpen (at_ 500 440) = true ∧
    qualifies (at_ 500 440) = true ∧ qualifies (at_ 500 439) = false ∧
    promotes { at_ 500 470 with inBrk := HELD, dbgCount := 10 } := by decide

theorem witness_DebugWindowIsTheStatedComparison :
    (at_ 4294967295 0).clock < 2 ^ Z.cfg.clockBits ∧ (at_ 0 4294967295).lastResetTime < 2 ^ Z.cfg.clockBits := by decide

theorem witness_ReleaseResult :
    { at_ 140 100 with inRst := LOW }.cfg.rstPressedLevel = LOW ∧ { at_ 140 100 with inRst := LOW }.inRst = LOW ∧
    gateOpen { at_ 140 100 with inRst := LOW } = true := by decide

theorem witness_BouncingPressStopsTheHoldTimer :
    Z.cfg.rstPressedLevel = LOW ∧ { at_ 257 157 with mode := .emergency }.mode = .emergency ∧ Z.inBrk = RELEASED ∧
    Z.inRst = HIGH ∧ gateOpen { at_ 257 157 with mode := .emergency } = true ∧ 0 < (at_ 257 157).clock := by decide

/-- Both directions from the threshold, and the edges that do not fire. -/
theorem witness_PinClkResult :
    Z.cfg.rotThresh = 2 ∧ LOW ≠ Z.clkLevel ∧ countAfter { Z with desync := -1 } LOW < -1 ∧
    1 < countAfter { Z with desync := 1, inDt := LOW } LOW ∧ countAfter Z LOW = -1 := by decide

theorem witness_DetentEmitsOneRotation :
    Z.cfg.rotThresh = 2 ∧ Z.clkLevel = HIGH ∧ Z.inDt = HIGH ∧ Z.desync = 0 ∧ Z.mode ≠ .emergency := by decide

theorem witness_IsolatedGlitchCancels : Z.cfg.rotThresh = 2 ∧ LOW ≠ Z.clkLevel ∧ Z.desync = 0 := by decide

theorem witness_EmergencyIgnoresTheEncoder :
    { Z with mode := .emergency, desync := 1 }.mode = .emergency ∧
    ∀ i ∈ [Instr.pinDt LOW, .pinClk LOW, .pinDt HIGH, .pinClk HIGH],
      i.mnemonic = "PIN.CLK" ∨ i.mnemonic = "PIN.DT" := by decide

theorem witness_ElevenDetentsReturnThePosition :
    Z.cfg.rotThresh = 2 ∧ Z.clkLevel = HIGH ∧ Z.inDt = HIGH ∧ Z.desync = 0 ∧
    { Z with mode := .debug, dpos := 3 }.mode = .debug := by decide

/-- Overflow 50 counts (`n` = 49), overflow 51 fires (`n` = 50). -/
theorem witness_LongPressFiresOncePerHold :
    { Z with armed := true }.armed = true ∧ Z.holdCounter = 0 ∧ 49 + 1 ≤ Z.cfg.holdLimit ∧
    ¬ 50 + 1 ≤ Z.cfg.holdLimit := by decide

theorem witness_RenderResult :
    Z.tphase = .render ∧ Z.seqActive = false ∧ { Z with seqActive := true }.seqActive = true := by decide

/-- A tick within a step, the end of a step, the end of the sequence. -/
theorem witness_RenderStepsTheTestSequence :
    Z.tphase = .render ∧ { Z with seqActive := true }.seqActive = true ∧ Z.cfg.seqSteps = 15 ∧
    Z.cfg.testSeqLut[14]? = some 0x1F ∧ Z.cfg.testSeqLut[13]? = some 0x00 ∧ 58 + 1 ≠ Z.cfg.seqStepTicks ∧
    59 + 1 = Z.cfg.seqStepTicks ∧ { Z with seqStep := 14 }.seqStep = 14 ∧ { Z with seqStep := 13 }.seqStep ≠ 14 := by
  decide

theorem witness_BlinkPatterns :
    defaultConfig.periodBlink = 500 ∧ defaultConfig.blinkWindows = [(0, 250)] := by decide

theorem witness_PulsePattern :
    defaultConfig.periodBlink = 500 ∧ defaultConfig.pulseWindows = [(0, 100), (150, 250)] := by decide

theorem witness_AllPattern :
    defaultConfig.periodBlink = 500 ∧ defaultConfig.periodAllSub = 250 ∧
    defaultConfig.pulseWindows = [(0, 100), (150, 250)] := by decide

theorem witness_SosPattern :
    defaultConfig.periodSos = 1700 ∧
    defaultConfig.sosWindows = [(0, 100), (200, 300), (400, 500), (700, 900), (1000, 1200), (1300, 1500)] ∧
    250 = 1950 % 1700 := by decide

theorem witness_DebugModeShowsTheTable :
    Z.tphase = .render ∧ Z.seqActive = false ∧ { Z with mode := .debug, dpos := 10 }.mode = .debug := by decide

theorem witness_PatternsAreDarkAtPhaseZero : SourceValues defaultConfig ∧ Mode.left ≠ .debug :=
  ⟨witness_SourceValues, by decide⟩

theorem witness_RenderIsIdempotent :
    { Z with mode := .left, clock := 120, out := 0x01 }.seqActive = false ∧
    exec .render { Z with mode := .left, clock := 120, out := 0x01 } =
      .next { Z with mode := .left, clock := 120, out := 0x0B, tphase := .mirror } :=
  ⟨by decide, next_of_gives (by decide)⟩

/-- Two states that differ in the hold timer, the times and the inputs, and agree on what RENDER reads. -/
theorem witness_RenderReadsOnlyItsRegisters :
    ({ at_ 120 7 with mode := .left, armed := true, inBrk := HELD, desync := 1, dbgCount := 3 } : State).clock =
      { at_ 120 0 with mode := .left }.clock ∧
    exec .render { at_ 120 0 with mode := .left } =
      .next { at_ 120 0 with mode := .left, out := 0x0A, tphase := .mirror } :=
  ⟨rfl, next_of_gives (by decide)⟩

theorem witness_MirrorResult : { Z with tphase := .mirror, inBrk := HELD }.tphase = .mirror := by decide

/-- The gate open and shut, the pin up and down. -/
theorem witness_ResyncResult :
    { Z with tphase := .resync }.tphase = .resync ∧ Z.cfg.resyncGate = .outside ∧ Z.cfg.rstPressedLevel = LOW ∧
    Z.inRst = HIGH ∧ accept 32 116 100 15 = true ∧ accept 32 115 100 15 = false := by decide

theorem witness_ResyncInsideReading :
    { Z with tphase := .resync, cfg := { defaultConfig with resyncGate := .inside } }.tphase = .resync ∧
    { Z with tphase := .resync, cfg := { defaultConfig with resyncGate := .inside } }.cfg.resyncGate = .inside := by
  decide

/-- The last clock value and the one before it. -/
theorem witness_AdvanceResult :
    { Z with tphase := .advance, clock := 4294967295 }.tphase = .advance ∧
    4294967295 < 2 ^ Z.cfg.clockBits ∧ 4294967295 + 1 = 2 ^ Z.cfg.clockBits ∧ 4294967294 + 1 ≠ 2 ^ Z.cfg.clockBits := by
  decide

theorem witness_TphaseSequencing :
    instrPhase .mirror = some .mirror ∧ Z.tphase ≠ .mirror ∧ instrPhase .render = some .render ∧ Z.tphase = .render ∧
    instrPhase .ovf = none ∧ instrPhase (.reset HELD LOW LOW LOW) = none := by decide

theorem witness_TickNetEffect :
    Z.tphase = .render ∧ Z.cfg.resyncGate = .outside ∧ Z.cfg.rstPressedLevel = LOW ∧ Z.cfg.debounceMin = 15 := by
  decide

theorem witness_FrontLightShowsTheBrakeAfterATick :
    { Z with mode := .emergency, epat := .all, clock := 50 }.tphase = .render := by decide

/-- A tick within the sequence, the last one, and the step shown at each. -/
theorem witness_TestSequenceTakesNineHundredTicks :
    Z.cfg.seqSteps = 15 ∧ Z.cfg.seqStepTicks = 60 ∧ Z.tphase = .render ∧
    { Z with mode := .debug, seqActive := true }.seqActive = true ∧ Z.seqStep = 0 ∧ Z.seqTimer = 0 ∧ 61 ≤ 900 ∧
    Z.cfg.testSeqLut[(61 - 1) / 60]? = some 0x00 ∧ Z.cfg.testSeqLut[(900 - 1) / 60]? = some 0x1F ∧
    { Z with mode := .debug, seqActive := true }.mode = .debug := by decide

theorem witness_ResetStateIsLeftByTheIdleResetWord :
    { Z with mode := .debug, resetDone := false, trace := [0xF7] }.cfg = defaultConfig ∧
    { Z with mode := .debug, resetDone := false, trace := [0xF7] }.trace = [0xF7#8] ∧
    { Z with mode := .debug, resetDone := false, trace := [0xF7] }.ports = [] := by decide

theorem witness_LampPinLevels :
    Z.cfg.lightOnLevel = LOW ∧ Z.cfg.indOnLevel = HIGH ∧ Z.out = 0b00000 := by decide

/-- An operation with the pulse, and OVF without it. -/
theorem witness_ClearLinePulsesOnArmAndDisarm :
    tmrClr (.pinRst LOW) (at_ 100 40) = true ∧ tmrClr (.pinRst HIGH) { at_ 100 40 with inRst := LOW } = true ∧
    exec (.pinRst LOW) (at_ 100 40) = .next { at_ 100 100 with armed := true, inRst := LOW } ∧
    tmrClr .ovf { Z with armed := true, holdCounter := 49 } = false ∧
    exec .ovf { Z with armed := true, holdCounter := 49 } =
      .next { Z with armed := true, holdCounter := 50, tcntCleared := false } :=
  ⟨by decide, by decide, next_of_gives (by decide), by decide, next_of_gives (by decide)⟩

/-- All four lines, the overflow and the strobe at once, in the reverse of the default order. -/
theorem witness_CoincidentEventsLeaveNoEdge :
    let p : PortInputs := ⟨⟨LOW, LOW, LOW, LOW⟩, true, true, false⟩
    Z.cfg.wf = true ∧ p.rstSys = false ∧
    [Instr.render, .pinClk LOW, .pinDt LOW, .pinBrk HELD, .pinRst LOW, .ovf].Perm
      (portOps { Z with armed := true } p) := by decide

theorem witness_StrobesStartTicksAndResets :
    Z.cfg.wf = true ∧ Z.tphase = .render ∧ { quiet Z false with rstSys := true }.rstSys = true := by decide

theorem witness_WriteSets :
    Instr.ovf.isReset = false ∧
    exec .ovf { Z with mode := .left, armed := true, holdCounter := 50 } = .next { Z with mode := .emergency } :=
  ⟨rfl, next_of_gives (by decide)⟩

/-- One operation for each arm that changes the clock. -/
theorem witness_ClockIsResetInThreePlaces :
    exec .advance { Z with tphase := .advance } = .next { Z with clock := 1 } ∧
    exec (.pinClk LOW) { Z with clock := 7, desync := -1 } = .next { Z with mode := .left, clkLevel := LOW } ∧
    exec (.pinRst LOW) { at_ 200 100 with mode := .emergency } =
      .next { at_ 0 200 with mode := .emergency, epat := .pulse, armed := true, inRst := LOW } ∧
    exec (.reset RELEASED HIGH HIGH HIGH) (at_ 9 0) = .next Z :=
  ⟨next_of_gives (by decide), next_of_gives (by decide), next_of_gives (by decide), next_of_gives (by decide)⟩

/-- Into Debug, out of Debug, into Emergency, out of Emergency by either way. -/
theorem witness_DebugAndEmergencyEntryAndExit :
    exec (.pinRst LOW) { at_ 500 470 with mode := .emergency, dbgCount := 10, inBrk := HELD } =
      .next { at_ 500 500 with
        mode := .debug, armed := true, out := 0x1F, seqActive := true, inRst := LOW, inBrk := HELD } ∧
    exec .ovf { Z with mode := .debug, armed := true, holdCounter := 50 } = .next Z ∧
    exec .ovf { Z with armed := true, holdCounter := 50 } = .next { Z with mode := .emergency } ∧
    exec .ovf { Z with mode := .emergency, armed := true, holdCounter := 50 } = .next Z :=
  ⟨next_of_gives (by decide), next_of_gives (by decide), next_of_gives (by decide), next_of_gives (by decide)⟩

theorem witness_SubModesAreKept :
    exec (.pinRst LOW) { at_ 200 100 with mode := .emergency, epat := .sos } =
      .next { at_ 0 200 with mode := .emergency, armed := true, inRst := LOW } ∧
    exec (.pinClk LOW) { Z with mode := .debug, desync := -1 } =
      .next { Z with mode := .debug, dpos := 10, clkLevel := LOW } :=
  ⟨next_of_gives (by decide), next_of_gives (by decide)⟩

/-- With DEBUG_PRESSES = 1 one press is enough, so a short run meets the hypotheses. -/
theorem witness_DebugModeNeedsItsPresses :
    let c := { defaultConfig with debugPresses := 1 }
    let s := { at_ 100 80 with cfg := c, inBrk := HELD }
    s.mode ≠ .debug ∧ s.dbgCount = 0 ∧
    runOps [.nop, .pinRst LOW] s =
      .next { at_ 100 100 with
        cfg := c, mode := .debug, inBrk := HELD, inRst := LOW, armed := true, out := 0x1F, seqActive := true } :=
  ⟨by decide, by decide, next_of_gives (by decide)⟩

theorem witness_ResetStatesSatisfyTheInvariants : defaultConfig.wf = true := by decide

theorem witness_StepKeepsTheInvariants :
    Inv { at_ 200 100 with tphase := .advance, trace := [0xB0] } ∧
    step { at_ 200 100 with tphase := .advance, trace := [0xB0] } = .next (at_ 201 100) :=
  ⟨by constructor <;> decide, next_of_gives (by decide)⟩

theorem witness_StatedRangesHoldAfterReset :
    defaultConfig.wf = true ∧ SourceValues defaultConfig ∧
    runOps [.pinClk LOW, .render] (State.afterReset defaultConfig RELEASED HIGH HIGH HIGH) =
      .next { Z with clkLevel := LOW, desync := -1, tphase := .mirror } :=
  ⟨by decide, witness_SourceValues, next_of_gives (by decide)⟩

/-- A trace in turn and one out of turn. -/
theorem witness_TracesInTurnRunSafely :
    Inv { at_ 200 100 with tphase := .advance } ∧ traceInTurn .advance [.ovf, .advance, .render] = true ∧
    traceInTurn .advance [.ovf, .render] = false :=
  ⟨by constructor <;> decide, by decide, by decide⟩

end Sys2Proof.Tests
end

section
/-! PROOFS. The re-sync micro-operation (45_brake_mirror_and_tick.md R115), in both readings of its gate. -/

namespace Sys2Proof.Machine

theorem isPressed_eq_false_iff {c : Config} {v : Level} : isPressed c v = false ↔ v ≠ c.rstPressedLevel := by
  simp [isPressed]

/-- The re-sync disarms exactly when the raw pin reads released and its gate condition holds (R115). -/
theorem resyncDisarms_iff {s : State} :
    resyncDisarms s = true ↔ s.inRst ≠ s.cfg.rstPressedLevel ∧ resyncGateOk s = true := by
  rw [resyncDisarms, Bool.and_eq_true, Bool.not_eq_true', isPressed_eq_false_iff]

/-- Under RESYNC_GATE = inside the gate condition is the debounce gate failing (D17, log 21). -/
theorem resyncGateOk_inside_iff {s : State} (h : s.cfg.resyncGate = .inside) :
    resyncGateOk s = true ↔ accept s.cfg.clockBits s.clock s.lastResetTime s.cfg.debounceMin = false := by
  simp only [resyncGateOk, h, gateOpen, Bool.not_eq_true']

/-- RESYNC in turn, for either reading of the gate: stop and clear the timer or not, and go on to ADVANCE. -/
theorem exec_resync_of_turn {s : State} (h : s.tphase = .resync) :
    exec .resync s = .next
      (if s.inRst ≠ s.cfg.rstPressedLevel ∧ resyncGateOk s = true then
        { s with armed := false, holdCounter := 0, tcntCleared := true, tphase := .advance }
      else { s with tphase := .advance }) := by
  rw [exec_resync, execResync, inTurn_next_iff]
  refine ⟨h, ?_⟩
  by_cases hd : s.inRst ≠ s.cfg.rstPressedLevel ∧ resyncGateOk s = true
  · rw [if_pos hd, opResync, if_pos (resyncDisarms_iff.2 hd)]
    rfl
  · rw [if_neg hd, opResync, if_neg (mt resyncDisarms_iff.1 hd)]
    rfl

/-- Settles O40: RESYNC in turn, with the gate condition read as the gate failing. -/
theorem resyncInsideReading : Obligations.ResyncInsideReading := by
  intro s hturn hgate
  simp only [exec_resync_of_turn hturn, resyncGateOk_inside_iff hgate]

end Sys2Proof.Machine
end

section
/-! PROOFS. The invariants of 10_state.md R33 (with R17, R18 and R28 a): they hold after RESET, and every internal
operation, every operation of the opcode map and every step keeps them. -/

namespace Sys2Proof.Machine

/-! ## The states RESET leaves -/

/-- After RESET every invariant of a register says that 0 is in its range, which a well-formed configuration grants. -/
theorem inv_afterReset {c : Config} (hw : c.wf = true) (brk0 rst0 dt0 clk0 : Level) :
    Inv (State.afterReset c brk0 rst0 dt0 clk0) := by
  obtain ⟨-, -, -, -, hsteps, -, -, hticks, hpresses, hthresh⟩ := (wf_iff c).1 hw
  exact
    { config := hw
      clockFits := Nat.two_pow_pos _
      lastFits := Nat.two_pow_pos _
      desyncLow := by simpa [State.afterReset] using hthresh
      desyncHigh := by simpa [State.afterReset] using hthresh
      holdBound := Nat.zero_le _
      stoppedCount := fun _ => rfl
      dbgBound := hpresses
      debugCount := fun _ => rfl
      seqStepBound := hsteps
      seqTimerBound := hticks
      seqIdle := fun _ => ⟨rfl, rfl⟩
      cleared := rfl }

/-- Settles O57: `State.reset` is the state after RESET of the default configuration, which is well formed. -/
theorem resetStatesSatisfyTheInvariants : Obligations.ResetStatesSatisfyTheInvariants :=
  ⟨inv_afterReset (by decide) _ _ _ _, fun _ brk0 rst0 dt0 clk0 hw => inv_afterReset hw brk0 rst0 dt0 clk0⟩

/-! ## Two facts about every outcome of PIN.BRK and of a micro-operation -/

/-- What PIN.BRK can answer. -/
theorem execPinBrk_cases {v : Level} {s t : State} (h : execPinBrk v s = .next t) :
    (v = s.inBrk ∧ t = s) ∨
    (v ≠ s.inBrk ∧ v = RELEASED ∧ t = { s with inBrk := v, dbgCount := 0 }) ∨
    (v ≠ s.inBrk ∧ v = HELD ∧ t = { s with inBrk := v }) := by
  unfold execPinBrk at h
  split_ifs at h with hedge hrel <;> injection h with h
  · exact .inr (.inl ⟨isEdge_iff.1 hedge, hrel, h.symm⟩)
  · exact .inr (.inr ⟨isEdge_iff.1 hedge, by simpa using hrel, h.symm⟩)
  · exact .inl ⟨not_not.1 (mt isEdge_iff.2 hedge), h.symm⟩

/-- A micro-operation keeps the invariants when its effect does: none of them reads `tphase`. -/
theorem inv_inTurn {p : TPhase} {f : State → State} {s t : State} (hf : Inv (f s)) (ht : inTurn p f s = .next t) :
    Inv t := by
  obtain ⟨-, rfl⟩ := inTurn_next_iff.1 ht
  exact { hf with }

/-! ## The internal operations keep the invariants -/

section Keeps

variable {s : State} (h : Inv s)
include h

theorem Inv.debugPresses_pos : 0 < s.cfg.debugPresses := Nat.zero_lt_of_lt h.dbgBound

theorem inv_setMode {m : Mode} (hm : m = .debug → s.dbgCount = 0) : Inv { s with mode := m } :=
  { h with debugCount := hm }

theorem inv_clearDbgCount : Inv { s with dbgCount := 0 } :=
  { h with dbgBound := h.debugPresses_pos, debugCount := fun _ => rfl }

/-- Whatever agreement count is stored, it has to lie strictly within the threshold. -/
theorem inv_setDesync {d : Int} (hlow : -(s.cfg.rotThresh : Int) < d) (hhigh : d < (s.cfg.rotThresh : Int)) :
    Inv { s with desync := d } :=
  { h with desyncLow := hlow, desyncHigh := hhigh }

theorem inv_clearClock : Inv { s with clock := 0 } := { h with clockFits := Nat.two_pow_pos _ }

theorem inv_setLastResetTime : Inv { s with lastResetTime := s.clock } := { h with lastFits := h.clockFits }

theorem inv_opArm : Inv (opArm s) :=
  { h with holdBound := Nat.zero_le _, stoppedCount := nofun, cleared := rfl }

theorem inv_opDisarm : Inv (opDisarm s) :=
  { h with holdBound := Nat.zero_le _, stoppedCount := fun _ => rfl, cleared := rfl }

theorem inv_opPromote : Inv (opPromote s) :=
  { h with
    dbgBound := h.debugPresses_pos
    debugCount := fun _ => rfl
    seqStepBound := Nat.zero_lt_of_lt h.seqStepBound
    seqTimerBound := Nat.zero_lt_of_lt h.seqTimerBound
    seqIdle := fun _ => ⟨rfl, rfl⟩ }

/-- DBGENTRY counts on only below DEBUG_PRESSES and outside Debug; otherwise the count is kept or cleared. -/
theorem inv_opDbgEntry : Inv (opDbgEntry s) := by
  rcases opDbgEntry_cases s with ⟨-, e⟩ | ⟨-, -, e⟩ | ⟨-, hmode, -, hcount, e⟩ | ⟨-, -, -, e⟩ | ⟨-, e⟩ <;> rw [e]
  · exact inv_opPromote h
  · exact h
  · exact { h with dbgBound := hcount, debugCount := fun hd => absurd hd hmode }
  · exact inv_clearDbgCount h
  · exact inv_clearDbgCount h

theorem inv_opPressMode : Inv (opPressMode s) := by
  unfold opPressMode
  split
  · exact { inv_clearClock h with }
  · exact h
  all_goals exact inv_setMode h nofun

theorem inv_opPress : Inv (opPress s) :=
  inv_opArm (inv_opPressMode (inv_setLastResetTime (inv_opDbgEntry h)))

theorem inv_opRelease : Inv (opRelease s) := inv_opDisarm (inv_setLastResetTime h)

theorem inv_opLongPress : Inv (opLongPress s) := by
  unfold opLongPress
  split <;> exact inv_setMode h nofun

theorem inv_opRotateLeft : Inv (opRotateLeft s) := by
  unfold opRotateLeft
  split_ifs
  · exact { h with }
  · exact inv_setMode h nofun

theorem inv_opRotateRight : Inv (opRotateRight s) := by
  unfold opRotateRight
  split_ifs
  · exact { h with }
  · exact inv_setMode h nofun

/-- A rotation event clears the agreement count, and 0 is within the threshold. -/
theorem inv_clearDesyncAndClock : Inv { s with desync := 0, clock := 0 } := by
  have hlow := h.desyncLow
  have hhigh := h.desyncHigh
  exact inv_clearClock (inv_setDesync (d := 0) h (by omega) (by omega))

theorem inv_opDecode (v : Level) : Inv (opDecode v s) := by
  rcases opDecode_cases v s with ⟨-, e⟩ | ⟨-, -, e⟩ | ⟨hlow, hhigh, e⟩ <;> rw [e]
  · exact inv_opRotateLeft (inv_clearDesyncAndClock h)
  · exact inv_opRotateRight (inv_clearDesyncAndClock h)
  · exact inv_setDesync h hlow hhigh

/-- SEQSTEP leaves the timer below a full step and the step inside the sequence; idle it is called from no operation. -/
theorem inv_opSeqStep (hactive : s.seqActive = true) : Inv (opSeqStep s) := by
  have hstep := h.seqStepBound
  have htimer := h.seqTimerBound
  have hbusy {P : Prop} : s.seqActive = false → P := fun hidle => absurd hidle (by simp [hactive])
  rcases opSeqStep_cases s with ⟨hticks, e⟩ | ⟨-, -, e⟩ | ⟨-, hlast, e⟩ <;> rw [e]
  · exact { h with seqTimerBound := show s.seqTimer + 1 < s.cfg.seqStepTicks by omega, seqIdle := hbusy }
  · exact { h with
      seqStepBound := Nat.zero_lt_of_lt hstep
      seqTimerBound := Nat.zero_lt_of_lt htimer
      seqIdle := fun _ => ⟨rfl, rfl⟩ }
  · exact { h with
      seqStepBound := show s.seqStep + 1 < s.cfg.seqSteps by omega
      seqTimerBound := Nat.zero_lt_of_lt htimer
      seqIdle := hbusy }

theorem inv_opRender : Inv (opRender s) := by
  unfold opRender
  split_ifs with hactive
  · exact inv_opSeqStep h hactive
  · exact { h with }

theorem inv_opMirror : Inv (opMirror s) := by
  unfold opMirror
  split_ifs
  · exact { h with }
  · exact h

theorem inv_opResync : Inv (opResync s) := by
  unfold opResync
  split_ifs
  · exact inv_opDisarm h
  · exact h

theorem inv_opAdvance : Inv (opAdvance s) := { h with clockFits := addW_lt _ _ _ }

/-! ## The operations of the opcode map keep the invariants -/

theorem inv_execPinClk {v : Level} {t : State} (ht : execPinClk v s = .next t) : Inv t := by
  rcases execPinClk_cases ht with ⟨-, rfl⟩ | ⟨-, -, rfl⟩ | ⟨-, -, rfl⟩
  · exact h
  · exact { h with }
  · exact { inv_opDecode h v with }

theorem inv_execPinRst {v : Level} {t : State} (ht : execPinRst v s = .next t) : Inv t := by
  have hs1 : Inv { s with inRst := v } := { h with }
  rcases execPinRst_cases ht with ⟨-, rfl⟩ | ⟨-, -, rfl⟩ | ⟨-, -, -, rfl⟩ | ⟨-, -, -, rfl⟩
  · exact h
  · exact hs1
  · exact inv_opPress hs1
  · exact inv_opRelease hs1

theorem inv_execPinBrk {v : Level} {t : State} (ht : execPinBrk v s = .next t) : Inv t := by
  rcases execPinBrk_cases ht with ⟨-, rfl⟩ | ⟨-, -, rfl⟩ | ⟨-, -, rfl⟩
  · exact h
  · exact { inv_clearDbgCount h with }
  · exact { h with }

/-- OVF counts on only within HOLD_LIMIT; past it the timer is disarmed. -/
theorem inv_execOvf {t : State} (ht : execOvf s = .next t) : Inv t := by
  rcases execOvf_cases ht with ⟨-, rfl⟩ | ⟨harmed, hlimit, rfl⟩ | ⟨-, -, rfl⟩
  · exact h
  · exact { h with
      holdBound := hlimit
      stoppedCount := fun hstopped => absurd hstopped (by simp [harmed])
      cleared := by simp }
  · have hstop : Inv (opDisarm s) := inv_opDisarm h
    exact inv_opLongPress { hstop with }

/-- Every operation keeps the invariants. -/
theorem inv_exec {i : Instr} {t : State} (ht : exec i s = .next t) : Inv t := by
  cases i with
  | nop => injection ht with ht; exact ht ▸ h
  | pinClk v => exact inv_execPinClk h ht
  | pinDt v => injection ht with ht; subst ht; exact { h with }
  | pinRst v => exact inv_execPinRst h ht
  | pinBrk v => exact inv_execPinBrk h ht
  | ovf => exact inv_execOvf h ht
  | render => exact inv_inTurn (inv_opRender h) ht
  | mirror => exact inv_inTurn (inv_opMirror h) ht
  | resync => exact inv_inTurn (inv_opResync h) ht
  | advance => exact inv_inTurn (inv_opAdvance h) ht
  | reset brk0 rst0 dt0 clk0 =>
    injection ht with ht
    subst ht
    exact { inv_afterReset h.config brk0 rst0 dt0 clk0 with }

end Keeps

/-- A run of operations keeps the invariants. -/
theorem inv_runOps {ops : List Instr} {s t : State} (h : Inv s) (ht : runOps ops s = .next t) : Inv t := by
  induction ops generalizing s with
  | nil => injection ht with ht; exact ht ▸ h
  | cons i rest ih =>
    obtain ⟨s', hi, hrest⟩ := runOps_cons_next_iff.1 ht
    exact ih (inv_exec h hi) hrest

/-- Settles O58: the fetch only takes inputs off, which no invariant reads, and every operation keeps them. -/
theorem stepKeepsTheInvariants : Obligations.StepKeepsTheInvariants := by
  intro s s' h hs
  obtain ⟨i, trace, ports, -, -, hexec⟩ := step_next hs
  have hfetched : Inv { s with trace := trace, ports := ports } := { h with }
  exact inv_exec hfetched hexec

end Sys2Proof.Machine
end

section
/-! PROOFS. The columns of 10_state.md R34: which registers each operation writes, and so what moves the clock (R17,
R97). -/

namespace Sys2Proof.Machine

/-- Settles O52: in each outcome of an operation the registers outside its column are those of the state before. -/
theorem writeSets : Obligations.WriteSets := by
  intro i s t hi h
  cases i with
  | nop => injection h with h; simp [← h]
  | pinClk v => rcases execPinClk_cases h with ⟨-, rfl⟩ | ⟨-, -, rfl⟩ | ⟨-, -, rfl⟩ <;> simp [Instr.mnemonic]
  | pinDt v => injection h with h; simp [← h, Instr.mnemonic]
  | pinRst v =>
    rcases execPinRst_cases h with ⟨-, rfl⟩ | ⟨-, -, rfl⟩ | ⟨-, -, -, rfl⟩ | ⟨-, -, -, rfl⟩ <;> simp [Instr.mnemonic]
  | pinBrk v => rcases execPinBrk_cases h with ⟨-, rfl⟩ | ⟨-, -, rfl⟩ | ⟨-, -, rfl⟩ <;> simp [Instr.mnemonic]
  | ovf => rcases execOvf_cases h with ⟨-, rfl⟩ | ⟨-, -, rfl⟩ | ⟨-, -, rfl⟩ <;> simp [Instr.mnemonic]
  | render => obtain ⟨-, rfl⟩ := inTurn_next_iff.1 h; simp [Instr.mnemonic]
  | mirror => obtain ⟨-, rfl⟩ := inTurn_next_iff.1 h; simp [Instr.mnemonic]
  | resync => obtain ⟨-, rfl⟩ := inTurn_next_iff.1 h; simp [Instr.mnemonic]
  | advance => obtain ⟨-, rfl⟩ := inTurn_next_iff.1 h; simp [Instr.mnemonic]
  | reset brk0 rst0 dt0 clk0 => cases hi

/-! ## The clock -/

/-- R34's `clock` row: outside its columns the clock is kept. -/
theorem exec_clock_of_unwritten {i : Instr} {s t : State} (hi : i.isReset = false)
    (hcol : i.mnemonic ∉ ["PIN.CLK", "PIN.RST", "ADVANCE"]) (h : exec i s = .next t) : t.clock = s.clock := by
  obtain ⟨-, -, -, hclock, -⟩ := writeSets i s t hi h
  exact not_not.1 (mt hclock hcol)

/-- The decoder's rotation events restart the clock. -/
theorem opDecode_clock (v : Level) (s : State) :
    (opDecode v s).clock =
      if countAfter s v ≤ -(s.cfg.rotThresh : Int) ∨ (s.cfg.rotThresh : Int) ≤ countAfter s v then 0
      else s.clock := by
  have hvote : countAfter s v = vote s v := rfl
  rw [hvote]
  rcases opDecode_cases v s with ⟨hleft, e⟩ | ⟨-, hright, e⟩ | ⟨hlow, hhigh, e⟩ <;> rw [e]
  · rw [opRotateLeft_clock, if_pos (.inl hleft)]
  · rw [opRotateRight_clock, if_pos (.inr hright)]
  · rw [if_neg (by omega)]

theorem execPinClk_clock {v : Level} {s t : State} (h : execPinClk v s = .next t) :
    t.clock =
      if v ≠ s.clkLevel ∧ s.mode ≠ .emergency ∧
          (countAfter s v ≤ -(s.cfg.rotThresh : Int) ∨ (s.cfg.rotThresh : Int) ≤ countAfter s v) then 0
      else s.clock := by
  rcases execPinClk_cases h with ⟨hv, rfl⟩ | ⟨-, hmode, rfl⟩ | ⟨hv, hmode, rfl⟩
  · rw [if_neg (fun hc => hc.1 hv)]
  · rw [if_neg (fun hc => hc.2.1 hmode)]
  · exact (opDecode_clock v s).trans (if_congr (by simp [hv, hmode]) rfl rfl)

/-- The accepted "pressed" edge, in the terms of PIN.RST's outcomes. -/
theorem acceptedPress_pinRst_iff {v : Level} {s : State} :
    acceptedPress (.pinRst v) s ↔ v ≠ s.inRst ∧ gateOpen s = true ∧ isPressed s.cfg v = true := by
  simp only [acceptedPress, isPressed, Instr.pinRst.injEq, beq_iff_eq]
  constructor
  · rintro ⟨rfl, hedge, hgate⟩
    exact ⟨hedge.symm, hgate, rfl⟩
  · rintro ⟨hedge, hgate, rfl⟩
    exact ⟨rfl, hedge.symm, hgate⟩

theorem execPinRst_clock {v : Level} {s t : State} (h : execPinRst v s = .next t) :
    t.clock = if acceptedPress (.pinRst v) s ∧ s.mode = .emergency ∧ ¬ promotes s then 0 else s.clock := by
  simp only [acceptedPress_pinRst_iff]
  rcases execPinRst_cases h with ⟨hv, rfl⟩ | ⟨-, hgate, rfl⟩ | ⟨hv, hgate, hpressed, rfl⟩ | ⟨-, -, hreleased, rfl⟩
  · simp [hv]
  · simp [hgate]
  · rw [opPress_clock]
    exact if_congr (by simp [hv, hgate, hpressed, promotes, qualifies_inRst]) rfl rfl
  · simp [hreleased]

/-- Settles O53: a rotation event, a press in Emergency, ADVANCE and RESET write the clock, no other operation does. -/
theorem clockIsResetInThreePlaces : Obligations.ClockIsResetInThreePlaces := by
  intro i s t h
  cases i with
  | advance =>
    obtain ⟨-, rfl⟩ := inTurn_next_iff.1 h
    rfl
  | reset brk0 rst0 dt0 clk0 => injection h with h; exact h ▸ rfl
  | pinClk v => exact execPinClk_clock h
  | pinRst v => exact execPinRst_clock h
  | nop | pinDt | pinBrk | ovf | render | mirror | resync =>
    exact exec_clock_of_unwritten rfl (by simp [Instr.mnemonic]) h

end Sys2Proof.Machine
end

section
/-! PROOFS. The printed ranges of 10_state.md R33, from the invariants and the source's literals. -/

namespace Sys2Proof.Machine

/-- No operation writes the configuration (R30). -/
theorem exec_cfg {i : Instr} {s t : State} (h : exec i s = .next t) : t.cfg = s.cfg := by
  cases hi : i.isReset
  · obtain ⟨-, -, -, -, -, -, -, -, -, -, -, -, -, -, -, -, -, -, -, hcfg, -⟩ := writeSets i s t hi h
    exact hcfg
  · cases i <;> simp [Instr.isReset] at hi
    injection h with h
    exact h ▸ rfl

theorem runOps_cfg {ops : List Instr} {s t : State} (h : runOps ops s = .next t) : t.cfg = s.cfg := by
  induction ops generalizing s with
  | nil => injection h with h; rw [h]
  | cons i rest ih =>
    obtain ⟨s', hi, hrest⟩ := runOps_cons_next_iff.1 h
    exact (ih hrest).trans (exec_cfg hi)

/-- With the source's literals the invariants are the ranges R33 prints. -/
theorem statedRanges_of_inv {s : State} (h : Inv s) (hv : SourceValues s.cfg) : StatedRanges s := by
  have hlow := h.desyncLow
  have hhigh := h.desyncHigh
  have hhold := h.holdBound
  have hdbg := h.dbgBound
  have hstep := h.seqStepBound
  have htimer := h.seqTimerBound
  rw [hv.rotThresh] at hlow hhigh
  rw [hv.holdLimit] at hhold
  rw [hv.debugPresses] at hdbg
  rw [hv.seqSteps] at hstep
  rw [hv.seqStepTicks] at htimer
  exact
    { desync := by omega
      hold := hhold
      stopped := h.stoppedCount
      dbg := by omega
      debug := h.debugCount
      dpos := Nat.le_of_lt_succ s.dpos.isLt
      seqStep := by omega
      seqTimer := by omega
      idle := h.seqIdle }

/-- Settles O59: RESET establishes the invariants, every run keeps them and the configuration. -/
theorem statedRangesHoldAfterReset : Obligations.StatedRangesHoldAfterReset := by
  intro c brk0 rst0 dt0 clk0 ops t hw hv hrun
  have hcfg : t.cfg = c := runOps_cfg hrun
  exact statedRanges_of_inv (inv_runOps (inv_afterReset hw brk0 rst0 dt0 clk0) hrun) (hcfg ▸ hv)

end Sys2Proof.Machine
end

section
/-! PROOFS. RENDER reads no register outside its column of 10_state.md R34; the lamp pins' polarities (R36). -/

namespace Sys2Proof.Machine

/-! ## What RENDER reads -/

/-- SEQSTEP before the step's last tick (R92). -/
theorem opSeqStep_within_step {s : State} (hticks : s.seqTimer + 1 ≠ s.cfg.seqStepTicks) :
    opSeqStep s = { s with out := s.cfg.testSeqImage s.seqStep, seqTimer := s.seqTimer + 1 } :=
  if_neg hticks

/-- SEQSTEP at the last tick of a step that is not the last one (R92). -/
theorem opSeqStep_at_step_end {s : State} (hticks : s.seqTimer + 1 = s.cfg.seqStepTicks)
    (hlast : s.seqStep ≠ s.cfg.seqSteps - 1) :
    opSeqStep s = { s with out := s.cfg.testSeqImage s.seqStep, seqTimer := 0, seqStep := s.seqStep + 1 } :=
  (if_pos hticks).trans (if_neg hlast)

/-- SEQSTEP at the last tick of the last step (R92). -/
theorem opSeqStep_at_sequence_end {s : State} (hticks : s.seqTimer + 1 = s.cfg.seqStepTicks)
    (hlast : s.seqStep = s.cfg.seqSteps - 1) :
    opSeqStep s =
      { s with out := s.cfg.testSeqImage s.seqStep, seqTimer := 0, seqActive := false, seqStep := 0 } :=
  (if_pos hticks).trans (if_pos hlast)

/-- `s` with every register that RENDER does not read (R34) taken from `r`. -/
def withUnreadByRender (s r : State) : State :=
  { s with
    lastResetTime := r.lastResetTime, clkLevel := r.clkLevel, desync := r.desync, armed := r.armed,
    holdCounter := r.holdCounter, dbgCount := r.dbgCount, inDt := r.inDt, inRst := r.inRst, inBrk := r.inBrk,
    tcntCleared := r.tcntCleared, trace := r.trace, ports := r.ports, resetDone := r.resetDone }

theorem opSeqStep_withUnreadByRender (s r : State) :
    opSeqStep (withUnreadByRender s r) = withUnreadByRender (opSeqStep s) r := by
  by_cases hticks : s.seqTimer + 1 = s.cfg.seqStepTicks
  · by_cases hlast : s.seqStep = s.cfg.seqSteps - 1
    · rw [opSeqStep_at_sequence_end hticks hlast]
      exact opSeqStep_at_sequence_end hticks hlast
    · rw [opSeqStep_at_step_end hticks hlast]
      exact opSeqStep_at_step_end hticks hlast
  · rw [opSeqStep_within_step hticks]
    exact opSeqStep_within_step hticks

/-- RENDER's effect does not depend on the registers it does not read, and leaves them alone. -/
theorem opRender_withUnreadByRender (s r : State) :
    opRender (withUnreadByRender s r) = withUnreadByRender (opRender s) r := by
  unfold opRender
  by_cases hactive : s.seqActive = true
  · rw [if_pos hactive, if_pos (by exact hactive), opSeqStep_withUnreadByRender]
  · rw [if_neg hactive, if_neg (by exact hactive)]
    rfl

/-- Settles O37: two states that agree on what RENDER reads differ only in registers its effect carries along. -/
theorem renderReadsOnlyItsRegisters : Obligations.RenderReadsOnlyItsRegisters := by
  intro s s' t hcfg hmode hepat hdpos hclock hout hactive hstep htimer hphase h
  obtain ⟨hturn, rfl⟩ := inTurn_next_iff.1 h
  have hs' : s' = withUnreadByRender s s' := State.ext_iff.2 (by simp [withUnreadByRender, *])
  have hrender : opRender s' = withUnreadByRender (opRender s) s' := by
    rw [← opRender_withUnreadByRender, ← hs']
  refine ⟨_, inTurn_next_iff.2 ⟨hphase.trans hturn, rfl⟩, ?_⟩
  rw [hrender]
  exact ⟨rfl, rfl, rfl, rfl, rfl⟩

/-! ## The lamp pins -/

theorem lightPin_eq_onLevel_iff {c : Config} {on : Bool} : lightPin c on = c.lightOnLevel ↔ on = true := by
  cases on <;> simp [lightPin]

theorem indPin_eq_onLevel_iff {c : Config} {on : Bool} : indPin c on = c.indOnLevel ↔ on = true := by
  cases on <;> simp [indPin]

/-- Settles O48: each pin carries its on level exactly when its bit of `out` is 1, and with all bits 0 its complement. -/
theorem lampPinLevels : Obligations.LampPinLevels := by
  refine ⟨fun s => ⟨lightPin_eq_onLevel_iff, lightPin_eq_onLevel_iff, lightPin_eq_onLevel_iff,
    indPin_eq_onLevel_iff, indPin_eq_onLevel_iff⟩, ?_⟩
  intro s hlight hind hout
  simp [lampPins, lightPin, indPin, hlight, hind, hout]

end Sys2Proof.Machine
end

section
/-! PROOFS. The one total order of operations (20_memory.md R43, R45): which operation a step runs, what the main loop
does at an instant without an event, and what the strobes start. -/

namespace Sys2Proof.Machine

/-! ## The next operation -/

/-- The fetch's tests passed, the step is the next operation (R10, R45). -/
theorem step_of_nextOp {s u : State} {i : Instr} (hw : s.cfg.wf = true) (hr : s.resetDone = true ∨ i.isReset = true)
    (hn : nextOp s = .ok (i, u)) : step s = exec i u := by
  have hfetch : fetch s = .ok (i, u) := by
    simp only [fetch, hw, hn, Bool.or_eq_true, hr, if_true]
  rw [step, hfetch]

theorem nextOp_of_word {s : State} {w : Byte} {rest : List Byte} {i : Instr} (ht : s.trace = w :: rest)
    (hd : decodeWord w = .ok i) : nextOp s = .ok (i, { s with trace := rest }) := by
  simp only [nextOp, ht, hd]

theorem nextOp_of_instant {s : State} {p : PortInputs} {later : List PortInputs} (ht : s.trace = [])
    (hp : s.ports = p :: later) : nextOp s = .ok (takeInstant (portOps s p) { s with ports := later }) := by
  simp only [nextOp, ht, hp]

/-- An instant's one operation leaves no word waiting. -/
theorem takeInstant_singleton {s : State} (ht : s.trace = []) (i : Instr) : takeInstant [i] s = (i, s) := by
  cases s
  cases ht
  rfl

theorem nextOp_of_no_input {s : State} (ht : s.trace = []) (hp : s.ports = []) : nextOp s = .ok (.nop, s) := by
  simp only [nextOp, ht, hp]

/-- While `rst_sys` is high the instant has one operation, RESET (R137 (4), (5)). -/
theorem portOps_of_rstSys {s : State} {p : PortInputs} (h : p.rstSys = true) :
    portOps s p = [resetOp s.cfg p.lines] := if_pos h

/-- Settles O7: the fetch takes the word off, or the instant and its first operation, which `rst_sys` makes a RESET. -/
theorem stepRunsTheNextOperationOfTheTrace : Obligations.StepRunsTheNextOperationOfTheTrace := by
  constructor
  · intro s w rest i hw hr ht hd
    exact step_of_nextOp hw hr (nextOp_of_word ht hd)
  · intro s p later i more hw hr ht hp hops
    have hreset : s.resetDone = true ∨ i.isReset = true := by
      refine hr.imp_right fun hrst => ?_
      rw [portOps_of_rstSys hrst] at hops
      injection hops with hi
      exact hi ▸ rfl
    have hnext := nextOp_of_instant ht hp
    rw [hops] at hnext
    exact step_of_nextOp hw hreset hnext

/-! ## The micro-operation that is due -/

/-- The effect of the micro-operation a phase names, its turn aside (R101, R114 to R116). -/
def TPhase.effect : TPhase → State → State
  | .render => opRender
  | .mirror => opMirror
  | .resync => opResync
  | .advance => opAdvance

theorem exec_instr (p : TPhase) (s : State) : exec p.instr s = inTurn p p.effect s := by cases p <;> rfl

/-- No micro-operation writes the configuration, an edge reference (R34) or the inputs that wait. -/
theorem TPhase.effect_keeps (p : TPhase) (s : State) :
    (p.effect s).cfg = s.cfg ∧ (p.effect s).clkLevel = s.clkLevel ∧ (p.effect s).inDt = s.inDt ∧
    (p.effect s).inRst = s.inRst ∧ (p.effect s).inBrk = s.inBrk ∧ (p.effect s).trace = s.trace ∧
    (p.effect s).ports = s.ports := by
  cases p <;> simp [TPhase.effect]

/-- The micro-operation `tphase` names is in turn, so it completes, and the next one is due (R117). -/
theorem exec_due {s : State} {p : TPhase} (hphase : s.tphase = p) :
    exec p.instr s = .next { p.effect s with tphase := p.next } := by
  rw [exec_instr, inTurn_next_iff]
  exact ⟨hphase, rfl⟩

/-- After a micro-operation the instant that shows no event is the one that showed none before. -/
theorem quiet_effect (p q : TPhase) (s : State) : quiet { p.effect s with tphase := q } = quiet s := by
  obtain ⟨hcfg, hclk, hdt, hrst, hbrk, -⟩ := p.effect_keeps s
  funext tick
  simp only [quiet, hcfg, hclk, hdt, hrst, hbrk]

/-! ## Instants without an event -/

/-- At a quiet instant the micro-operation that is due is the only operation. -/
theorem portOps_quiet_due {s : State} {tick : Bool} (hw : s.cfg.wf = true)
    (hdue : tick = true ∨ s.tphase ≠ .render) :
    portOps s (quiet s tick) = [s.tphase.instr] := (portOps_quiet tick hw).trans (if_pos hdue)

/-- Between ADVANCE and the next strobe a quiet instant has no operation (R113). -/
theorem portOps_quiet_idle {s : State} (hw : s.cfg.wf = true) (hphase : s.tphase = .render) :
    portOps s (quiet s false) = [] := (portOps_quiet false hw).trans (if_neg (by simp [hphase]))

/-- Settles O8: the operations of a quiet instant are the due micro-operation or none; with no input the step is NOP. -/
theorem stepWithoutEventRunsTheMainLoop : Obligations.StepWithoutEventRunsTheMainLoop := by
  intro s tick later hw hr ht
  refine ⟨fun hp hdue => ?_, ?_, fun hp => step_of_nextOp hw (.inl hr) (nextOp_of_no_input ht hp)⟩
  · have hstep : step s = exec s.tphase.instr { s with ports := later } :=
      step_of_nextOp hw (.inl hr) (by
        rw [nextOp_of_instant ht hp, portOps_quiet_due hw hdue, takeInstant_singleton (by exact ht)])
    obtain ⟨-, -, -, -, -, htrace, hports⟩ := s.tphase.effect_keeps { s with ports := later }
    exact ⟨hstep, _, hstep.trans (exec_due rfl), rfl, htrace.trans ht, hports⟩
  · rintro hp rfl hphase
    have hnext := nextOp_of_instant ht hp
    rw [portOps_quiet_idle hw hphase] at hnext
    exact step_of_nextOp hw (.inl hr) hnext

/-! ## The strobes -/

theorem runOps_singleton (i : Instr) (s : State) : runOps [i] s = exec i s := by
  rw [runOps_cons]
  cases exec i s <;> rfl

theorem runPorts_singleton (p : PortInputs) (s : State) : runPorts [p] s = runOps (portOps s p) s := by
  rw [runPorts]
  cases runOps (portOps s p) s <;> rfl

theorem runPorts_cons_next {p : PortInputs} {later : List PortInputs} {s t : State}
    (h : runOps (portOps s p) s = .next t) : runPorts (p :: later) s = runPorts later t := by rw [runPorts, h]

theorem runPorts_quiet_idle {s : State} (hw : s.cfg.wf = true) (hphase : s.tphase = .render)
    (later : List PortInputs) : runPorts (quiet s false :: later) s = runPorts later s :=
  runPorts_cons_next (by rw [portOps_quiet_idle hw hphase, runOps_nil])

/-- With a micro-operation due, a run of operations that begins with it and a run of instants that begins with a quiet
one go on from the same state. The lines show what they showed in `r`, where the tick began. -/
theorem exists_after_quiet_due {r s : State} {tick : Bool} (p : TPhase) (hw : s.cfg.wf = true)
    (hphase : s.tphase = p) (hquiet : quiet s = quiet r) (hdue : tick = true ∨ p ≠ .render) :
    ∃ t, t.cfg.wf = true ∧ t.tphase = p.next ∧ quiet t = quiet r ∧
      (∀ ops, runOps (p.instr :: ops) s = runOps ops t) ∧
      ∀ later, runPorts (quiet r tick :: later) s = runPorts later t := by
  have hexec := exec_due hphase
  refine ⟨_, (exec_cfg hexec).symm ▸ hw, rfl, (quiet_effect p p.next s).trans hquiet,
    fun _ => runOps_cons_next hexec, fun _ => runPorts_cons_next ?_⟩
  subst hphase
  rw [← hquiet, portOps_quiet_due hw hdue, runOps_singleton, hexec]

/-- One strobe and three quiet instants are one TICK (R64, D2, log 23), after which the main loop waits again. -/
theorem exists_after_strobed_tick {s : State} (hw : s.cfg.wf = true) (hphase : s.tphase = .render) :
    ∃ t, t.cfg.wf = true ∧ t.tphase = .render ∧ quiet t = quiet s ∧ runOps tickOps s = .next t ∧
      ∀ later, runPorts (quiet s true :: quiet s false :: quiet s false :: quiet s false :: later) s =
        runPorts later t := by
  obtain ⟨t₁, hw₁, hphase₁, hquiet₁, hops₁, hports₁⟩ :=
    exists_after_quiet_due (tick := true) .render hw hphase rfl (.inl rfl)
  obtain ⟨t₂, hw₂, hphase₂, hquiet₂, hops₂, hports₂⟩ :=
    exists_after_quiet_due (tick := false) .mirror hw₁ hphase₁ hquiet₁ (.inr nofun)
  obtain ⟨t₃, hw₃, hphase₃, hquiet₃, hops₃, hports₃⟩ :=
    exists_after_quiet_due (tick := false) .resync hw₂ hphase₂ hquiet₂ (.inr nofun)
  obtain ⟨t₄, hw₄, hphase₄, hquiet₄, hops₄, hports₄⟩ :=
    exists_after_quiet_due (tick := false) .advance hw₃ hphase₃ hquiet₃ (.inr nofun)
  refine ⟨t₄, hw₄, hphase₄, hquiet₄, ?_, fun later => ?_⟩
  · calc runOps tickOps s
      _ = runOps [.mirror, .resync, .advance] t₁ := hops₁ _
      _ = runOps [.resync, .advance] t₂ := hops₂ _
      _ = runOps [.advance] t₃ := hops₃ _
      _ = .next t₄ := hops₄ _
  · rw [hports₁, hports₂, hports₃, hports₄]

/-- Settles O51: a strobe starts one whole tick and no more, and while `rst_sys` is high the one operation is RESET. -/
theorem strobesStartTicksAndResets : Obligations.StrobesStartTicksAndResets := by
  constructor
  · intro s hw hphase
    obtain ⟨t, hw', hphase', hquiet, htick, hrun⟩ := exists_after_strobed_tick hw hphase
    refine ⟨(hrun []).trans htick.symm, ?_, runPorts_quiet_idle hw hphase []⟩
    rw [hrun, htick, ← hquiet]
    exact runPorts_quiet_idle hw' hphase' []
  · intro s p hrst
    rw [runPorts_singleton, portOps_of_rstSys hrst, runOps_singleton]
    rfl

end Sys2Proof.Machine
end

section
/-! PROOFS. The event word (30_encoding.md R55 to R60): decoder and encoder are inverse, word by word and trace by
trace; the decoder follows the opcode map; the written form (R63) and the register encodings (R49 to R51, R54, R61). -/

namespace Sys2Proof

open Sys2Proof.Machine

/-! ## Words and their fields -/

theorem ofBool_getLsbD (w : Byte) (k : Nat) : BitVec.ofBool (w.getLsbD k) = w.extractLsb' k 1 := by
  rw [BitVec.getLsbD_eq_extractLsb']
  generalize w.extractLsb' k 1 = b
  revert b
  decide

/-- Two fields of a word that meet are one field. -/
theorem field_append {w : Byte} (hi lo start : Nat) :
    w.extractLsb' (start + lo) hi ++ w.extractLsb' start lo = w.extractLsb' start (hi + lo) :=
  BitVec.extractLsb'_append_extractLsb'_eq_extractLsb' rfl

/-- Every word is a format-R word of its fields (R58). -/
theorem eq_wordR (w : Byte) :
    w = wordR (opField w) (w.getLsbD 3) (w.getLsbD 2) (w.getLsbD 1) (w.getLsbD 0) := by
  simp only [wordR, opField, ofBool_getLsbD]
  rw [field_append 4 1 3, field_append 5 1 2, field_append 6 1 1, field_append 7 1 0]
  exact BitVec.extractLsb'_eq_self.symm

/-- A word with pad 3:1 zero is a format-L word of its fields (R56). -/
theorem eq_wordL {w : Byte} (hpad : w.extractLsb' 1 3 = 0#3) : w = wordL (opField w) (w.getLsbD 0) := by
  rw [wordL, opField, ofBool_getLsbD, ← hpad, field_append 4 3 1, field_append 7 1 0]
  exact BitVec.extractLsb'_eq_self.symm

/-- A word with pad 3:0 zero is a format-Z word of its op (R57). -/
theorem eq_wordZ {w : Byte} (hpad : w.extractLsb' 0 4 = 0#4) : w = wordZ (opField w) := by
  rw [wordZ, opField, ← hpad, field_append 4 4 0]
  exact BitVec.extractLsb'_eq_self.symm

theorem opField_eq_ofNat {w : Byte} {k : Nat} (hop : (opField w).toNat = k) : opField w = BitVec.ofNat 4 k := by
  rw [← hop, BitVec.ofNat_toNat, BitVec.setWidth_eq]

/-- `op` is the word shifted down by four bits (R55). -/
theorem opField_toNat (w : Byte) : (opField w).toNat = (w >>> 4).toNat := by
  rw [opField, BitVec.extractLsb'_toNat, BitVec.toNat_ushiftRight, Nat.shiftRight_eq_div_pow]
  have := w.isLt
  omega

theorem opField_wordZ (op : BitVec 4) : opField (wordZ op) = op := BitVec.extractLsb'_append_eq_left

theorem opField_wordL (op : BitVec 4) (v : Level) : opField (wordL op v) = op := by decide +revert

theorem pad_wordL (op : BitVec 4) (v : Level) : (wordL op v).extractLsb' 1 3 = 0#3 := by decide +revert

theorem wordL_getLsbD_zero (op : BitVec 4) (v : Level) : (wordL op v).getLsbD 0 = v := by decide +revert

theorem wordR_operands (op : BitVec 4) (brk0 rst0 dt0 clk0 : Level) :
    (wordR op brk0 rst0 dt0 clk0).getLsbD 3 = brk0 ∧ (wordR op brk0 rst0 dt0 clk0).getLsbD 2 = rst0 ∧
    (wordR op brk0 rst0 dt0 clk0).getLsbD 1 = dt0 ∧ (wordR op brk0 rst0 dt0 clk0).getLsbD 0 = clk0 := by
  decide +revert

/-! ## Decoder and encoder are inverse -/

/-- Every operation's word decodes to it: the round trips of the single operations, put together. -/
@[simp] theorem decodeWord_encode (i : Instr) : decodeWord (encode i) = .ok i := by
  cases i with
  | nop => exact Laws.RoundTrip.nop rfl
  | pinClk v => exact Laws.RoundTrip.pinClk v rfl
  | pinDt v => exact Laws.RoundTrip.pinDt v rfl
  | pinRst v => exact Laws.RoundTrip.pinRst v rfl
  | pinBrk v => exact Laws.RoundTrip.pinBrk v rfl
  | ovf => exact Laws.RoundTrip.ovf rfl
  | render => exact Laws.RoundTrip.render rfl
  | mirror => exact Laws.RoundTrip.mirror rfl
  | resync => exact Laws.RoundTrip.resync rfl
  | advance => exact Laws.RoundTrip.advance rfl
  | reset brk0 rst0 dt0 clk0 => exact Laws.RoundTrip.reset brk0 rst0 dt0 clk0 rfl

theorem formatZ_ok {w : Byte} {k : Nat} {i j : Instr} (hop : (opField w).toNat = k) (h : formatZ w i = .ok j) :
    j = i ∧ w = wordZ (BitVec.ofNat 4 k) := by
  unfold formatZ at h
  split_ifs at h with hpad
  injection h with h
  exact ⟨h.symm, opField_eq_ofNat hop ▸ eq_wordZ hpad⟩

theorem formatL_ok {w : Byte} {k : Nat} {mk : Level → Instr} {j : Instr} (hop : (opField w).toNat = k)
    (h : formatL w mk = .ok j) : j = mk (w.getLsbD 0) ∧ w = wordL (BitVec.ofNat 4 k) (w.getLsbD 0) := by
  unfold formatL at h
  split_ifs at h with hpad
  injection h with h
  exact ⟨h.symm, opField_eq_ofNat hop ▸ eq_wordL hpad⟩

/-- A word that decodes is the encoding of its operation, because the fields of its format are all of the word. The
decoder's cases are format R (11), a reserved op (12), the four PIN operations in format L, and format Z. -/
theorem eq_encode_of_decodeWord {w : Byte} {i : Instr} (h : decodeWord w = .ok i) : w = encode i := by
  unfold decodeWord at h
  split at h
  case h_11 hop =>
    injection h with h
    have hw := eq_wordR w
    rw [opField_eq_ofNat hop] at hw
    exact h ▸ hw
  case h_12 => cases h
  case h_2 | h_3 | h_4 | h_5 =>
    obtain ⟨rfl, hw⟩ := formatL_ok ‹_› h
    exact hw
  all_goals
    obtain ⟨rfl, hw⟩ := formatZ_ok ‹_› h
    exact hw

theorem decodeWord_eq_ok_iff {w : Byte} {i : Instr} : decodeWord w = .ok i ↔ w = encode i :=
  ⟨eq_encode_of_decodeWord, fun h => h ▸ decodeWord_encode i⟩

/-! ## Whole traces -/

theorem decodeTrace_cons_ok {w : Byte} {ws : List Byte} {i : Instr} {is : List Instr} (hw : decodeWord w = .ok i)
    (hws : decodeTrace ws = .ok is) : decodeTrace (w :: ws) = .ok (i :: is) := by
  rw [decodeTrace, hw, hws]

/-- A trace that decodes begins with a word that decodes, and its rest decodes. -/
theorem exists_of_decodeTrace_cons {w : Byte} {ws : List Byte} {ops : List Instr}
    (h : decodeTrace (w :: ws) = .ok ops) :
    ∃ i is, decodeWord w = .ok i ∧ decodeTrace ws = .ok is ∧ ops = i :: is := by
  unfold decodeTrace at h
  split at h
  · cases h
  · split at h
    · injection h with h
      exact ⟨_, _, ‹_›, ‹_›, h.symm⟩
    · cases h

theorem decodeTrace_map_encode (ops : List Instr) : decodeTrace (ops.map encode) = .ok ops := by
  induction ops with
  | nil => rfl
  | cons i is ih => exact decodeTrace_cons_ok (decodeWord_encode i) ih

theorem eq_map_encode_of_decodeTrace {ws : List Byte} {ops : List Instr} (h : decodeTrace ws = .ok ops) :
    ws = ops.map encode := by
  induction ws generalizing ops with
  | nil => injection h with h; rw [← h, List.map_nil]
  | cons w ws ih =>
    obtain ⟨i, is, hw, hws, rfl⟩ := exists_of_decodeTrace_cons h
    rw [List.map_cons, ← eq_encode_of_decodeWord hw, ← ih hws]

/-- Settles O1: word by word, in both directions, along the trace. -/
theorem traceDecodeEncodeAgree : Obligations.TraceDecodeEncodeAgree :=
  ⟨fun ops _ => decodeTrace_map_encode ops, fun _ _ => eq_map_encode_of_decodeTrace⟩

/-! ## The opcode map -/

/-- A full mask asks for the very word. -/
theorem eq_of_mask_all {w k : Byte} (h : w &&& 0xFF#8 = k) : w = k := BitVec.and_allOnes.symm.trans h

/-- A mask leaves the fields it covers. -/
theorem field_of_mask {w m k : Byte} {start len : Nat} (hm : m.extractLsb' start len = BitVec.allOnes len)
    (h : w &&& m = k) : w.extractLsb' start len = k.extractLsb' start len := by
  rw [← h, BitVec.extractLsb'_and, hm, BitVec.and_allOnes]

theorem eq_wordL_of_mask {w : Byte} {op : BitVec 4} (h : w &&& 0xFE#8 = wordL op false) :
    w = wordL op (w.getLsbD 0) := by
  have hop : opField w = op := (field_of_mask rfl h).trans (opField_wordL op false)
  have hpad : w.extractLsb' 1 3 = 0#3 := (field_of_mask rfl h).trans (pad_wordL op false)
  exact hop ▸ eq_wordL hpad

theorem eq_wordR_of_mask {w : Byte} {op : BitVec 4} (h : w &&& 0xF0#8 = wordZ op) :
    w = wordR op (w.getLsbD 3) (w.getLsbD 2) (w.getLsbD 1) (w.getLsbD 0) := by
  have hop : opField w = op := (field_of_mask rfl h).trans (opField_wordZ op)
  have hw := eq_wordR w
  rwa [hop] at hw

/-- The word of an operation matches the row of its mnemonic. -/
theorem encode_matches_row (i : Instr) : ∀ r ∈ opcodeMap, i.mnemonic = r.mnemonic → encode i &&& r.mask = r.word := by
  cases i with
  | nop | ovf | render | mirror | resync | advance => decide
  | pinClk v | pinDt v | pinRst v | pinBrk v => cases v <;> decide
  | reset brk0 rst0 dt0 clk0 => cases brk0 <;> cases rst0 <;> cases dt0 <;> cases clk0 <;> decide

/-- Every operation has a row. -/
theorem exists_row (i : Instr) : ∃ r ∈ opcodeMap, i.mnemonic = r.mnemonic := by
  cases i <;> simp [opcodeMap, Instr.mnemonic]

/-- A word that matches a row is the word of an operation of the row's mnemonic, with the word's own operand bits. -/
theorem exists_encode_of_matches_row {w : Byte} {r : OpcodeRow} (hr : r ∈ opcodeMap) (h : w &&& r.mask = r.word) :
    ∃ i, w = encode i ∧ i.mnemonic = r.mnemonic := by
  simp only [opcodeMap, List.mem_cons, List.not_mem_nil, or_false] at hr
  rcases hr with rfl | rfl | rfl | rfl | rfl | rfl | rfl | rfl | rfl | rfl | rfl
  · exact ⟨.nop, eq_of_mask_all h, rfl⟩
  · exact ⟨.pinClk _, eq_wordL_of_mask h, rfl⟩
  · exact ⟨.pinDt _, eq_wordL_of_mask h, rfl⟩
  · exact ⟨.pinRst _, eq_wordL_of_mask h, rfl⟩
  · exact ⟨.pinBrk _, eq_wordL_of_mask h, rfl⟩
  · exact ⟨.ovf, eq_of_mask_all h, rfl⟩
  · exact ⟨.render, eq_of_mask_all h, rfl⟩
  · exact ⟨.mirror, eq_of_mask_all h, rfl⟩
  · exact ⟨.resync, eq_of_mask_all h, rfl⟩
  · exact ⟨.advance, eq_of_mask_all h, rfl⟩
  · exact ⟨.reset _ _ _ _, eq_wordR_of_mask h, rfl⟩

/-- A row and the decoder agree on a word. -/
theorem matches_row_iff {w : Byte} {r : OpcodeRow} (hr : r ∈ opcodeMap) :
    w &&& r.mask = r.word ↔ ∃ i, decodeWord w = .ok i ∧ i.mnemonic = r.mnemonic := by
  simp only [decodeWord_eq_ok_iff]
  refine ⟨exists_encode_of_matches_row hr, ?_⟩
  rintro ⟨i, rfl, hi⟩
  exact encode_matches_row i r hr hi

/-- A word that no row matches is one that does not decode. -/
theorem matches_no_row_iff {w : Byte} :
    (∀ r ∈ opcodeMap, w &&& r.mask ≠ r.word) ↔ ∃ e, decodeWord w = .error e := by
  constructor
  · intro hnone
    cases hd : decodeWord w with
    | error e => exact ⟨e, rfl⟩
    | ok i =>
      obtain ⟨r, hr, hi⟩ := exists_row i
      exact absurd ((matches_row_iff hr).2 ⟨i, hd, hi⟩) (hnone r hr)
  · rintro ⟨e, he⟩ r hr hmatch
    obtain ⟨i, hi, -⟩ := (matches_row_iff hr).1 hmatch
    cases he.symm.trans hi

/-- Settles O2: the rows by what the decoder inverts, the operand bits by the formats' fields. -/
theorem decoderFollowsTheOpcodeMap : Obligations.DecoderFollowsTheOpcodeMap := by
  refine ⟨fun w r hr => matches_row_iff hr, fun w => matches_no_row_iff, ?_, ?_⟩
  · intro w v h
    simp only [decodeWord_eq_ok_iff] at h
    rcases h with rfl | rfl | rfl | rfl <;> exact (wordL_getLsbD_zero _ v).symm
  · intro w brk0 rst0 dt0 clk0 h
    obtain ⟨hbrk, hrst, hdt, hclk⟩ := wordR_operands 0b1111 brk0 rst0 dt0 clk0
    rw [decodeWord_eq_ok_iff.1 h]
    exact ⟨hbrk.symm, hrst.symm, hdt.symm, hclk.symm⟩

/-- Settles O3: six words are the encodings of their operations; one has a reserved op, one a pad bit. -/
theorem statedWordsDecode : Obligations.StatedWordsDecode :=
  ⟨decodeWord_encode .nop, decodeWord_encode (.pinClk HIGH), decodeWord_encode (.pinRst LOW), decodeWord_encode .ovf,
    decodeWord_encode .mirror, decodeWord_encode (.reset RELEASED HIGH HIGH HIGH), rfl, rfl⟩

/-! ## The written form and the registers' encodings -/

/-- Settles O6: for every mnemonic, and every value of its operand. -/
theorem writtenFormReadsBack : Obligations.WrittenFormReadsBack := by
  intro i
  cases i with
  | nop | ovf | render | mirror | resync | advance => decide
  | pinClk v | pinDt v | pinRst v | pinBrk v => cases v <;> decide
  | reset brk0 rst0 dt0 clk0 => cases brk0 <;> cases rst0 <;> cases dt0 <;> cases clk0 <;> decide

theorem dposCode_toNat (d : Fin nDebugPos) : (dposCode d).toNat = d.val :=
  Nat.mod_eq_of_lt (d.isLt.trans (by decide))

theorem dposOfCode_dposCode (d : Fin nDebugPos) : dposOfCode (dposCode d) = d := by
  simp [dposOfCode, dposCode_toNat]

theorem dposOfCode_of_le {b : BitVec 4} (h : 11 ≤ b.toNat) : dposOfCode b = 0 :=
  dif_neg (Nat.not_lt.2 h)

/-- Settles O5: the printed numbers, and what decodes to what. -/
theorem registerEncodings : Obligations.RegisterEncodings := by
  refine ⟨by decide, by decide, by decide, ?_, by decide, fun d => ⟨dposCode_toNat d, dposOfCode_dposCode d⟩,
    fun b => dposOfCode_of_le, ?_, ?_⟩
  · intro m; cases m <;> rfl
  · intro e; cases e <;> rfl
  · intro p; cases p <;> rfl

end Sys2Proof
end

section
/-! PROOFS. What a step does with a word that waits (30_encoding.md R60, R122): refusals, the idle OVF word, a placed
word (log 3), the idle reset word (log 5, log 6). -/

namespace Sys2Proof.Machine

/-! ## Words that spell no operation -/

/-- The fetch's first test passed, a refusal of the next operation is the step's answer. -/
theorem step_of_nextOp_error {s : State} {r : Refusal} (hw : s.cfg.wf = true) (hn : nextOp s = .error r) :
    step s = .refused r := by
  have hfetch : fetch s = .error r := by simp only [fetch, hw, hn, if_true]
  rw [step, hfetch]

theorem step_of_bad_word {s : State} {w : Byte} {rest : List Byte} {e : DecodeError} (hw : s.cfg.wf = true)
    (ht : s.trace = w :: rest) (hd : decodeWord w = .error e) : step s = .refused (wordRefusal w e) :=
  step_of_nextOp_error hw (by simp only [nextOp, ht, hd])

theorem decodeWord_of_reserved {w : Byte}
    (hop : w >>> 4 = 0b0110#8 ∨ w >>> 4 = 0b0111#8 ∨ w >>> 4 = 0b1100#8 ∨ w >>> 4 = 0b1101#8 ∨ w >>> 4 = 0b1110#8) :
    decodeWord w = .error .reservedOpcode := by
  rcases hop with hop | hop | hop | hop | hop <;> rw [decodeWord, opField_toNat, hop] <;> rfl

theorem wordL_and_pad (op : BitVec 4) (v : Level) : wordL op v &&& 0b00001110#8 = 0#8 := by decide +revert

theorem wordZ_and_pad (op : BitVec 4) : wordZ op &&& 0b00001111#8 = 0#8 := by decide +revert

theorem formatL_of_pad {w : Byte} (hpad : w &&& 0b00001110#8 ≠ 0#8) (mk : Level → Instr) :
    formatL w mk = .error .nonzeroPad := by
  refine if_neg fun hzero => hpad ?_
  rw [eq_wordL hzero, wordL_and_pad]

theorem formatZ_of_pad {w : Byte} (hpad : w &&& 0b00001111#8 ≠ 0#8) (i : Instr) :
    formatZ w i = .error .nonzeroPad := by
  refine if_neg fun hzero => hpad ?_
  rw [eq_wordZ hzero, wordZ_and_pad]

theorem decodeWord_of_padL {w : Byte}
    (hop : w >>> 4 = 0b0001#8 ∨ w >>> 4 = 0b0010#8 ∨ w >>> 4 = 0b0011#8 ∨ w >>> 4 = 0b0100#8)
    (hpad : w &&& 0b00001110#8 ≠ 0#8) : decodeWord w = .error .nonzeroPad := by
  rcases hop with hop | hop | hop | hop <;> rw [decodeWord, opField_toNat, hop] <;> exact formatL_of_pad hpad _

theorem decodeWord_of_padZ {w : Byte}
    (hop : w >>> 4 = 0b0000#8 ∨ w >>> 4 = 0b0101#8 ∨ w >>> 4 = 0b1000#8 ∨ w >>> 4 = 0b1001#8 ∨ w >>> 4 = 0b1010#8 ∨
      w >>> 4 = 0b1011#8)
    (hpad : w &&& 0b00001111#8 ≠ 0#8) : decodeWord w = .error .nonzeroPad := by
  rcases hop with hop | hop | hop | hop | hop | hop <;> rw [decodeWord, opField_toNat, hop] <;>
    exact formatZ_of_pad hpad _

/-! ## Words of operations -/

/-- With the word of an operation waiting, the step is that operation. -/
theorem step_of_encode {s : State} {i : Instr} {rest : List Byte} (hw : s.cfg.wf = true)
    (hr : s.resetDone = true ∨ i.isReset = true) (ht : s.trace = encode i :: rest) :
    step s = exec i { s with trace := rest } :=
  step_of_nextOp hw hr (nextOp_of_word ht (decodeWord_encode i))

/-- A main-loop word that `tphase` does not name is refused (R60, R117). -/
theorem step_out_of_turn {s : State} {rest : List Byte} (p : TPhase) (hw : s.cfg.wf = true)
    (hr : s.resetDone = true) (ht : s.trace = encode p.instr :: rest) (hp : s.tphase ≠ p) :
    step s = .refused (.outOfTurn p s.tphase) := by
  rw [step_of_encode hw (.inl hr) ht, exec_instr, inTurn_of_ne (by exact hp)]

theorem execOvf_of_stopped {s : State} (h : s.armed = false) : execOvf s = .next s := if_neg (by simp [h])

/-- Settles O4: the decoder refuses the first three kinds of word, the operation the next four, and OVF does nothing
while the timer is stopped. -/
theorem reservedAndOutOfTurnWordsAreRefused : Obligations.ReservedAndOutOfTurnWordsAreRefused := by
  intro s w rest hw hr ht
  refine ⟨fun hop => step_of_bad_word hw ht (decodeWord_of_reserved hop),
    fun hop hpad => step_of_bad_word hw ht (decodeWord_of_padL hop hpad),
    fun hop hpad => step_of_bad_word hw ht (decodeWord_of_padZ hop hpad), ?_, ?_, ?_, ?_, ?_⟩
  · rintro rfl
    exact step_out_of_turn .render hw hr ht
  · rintro rfl
    exact step_out_of_turn .mirror hw hr ht
  · rintro rfl
    exact step_out_of_turn .resync hw hr ht
  · rintro rfl
    exact step_out_of_turn .advance hw hr ht
  · rintro rfl hstopped
    exact (step_of_encode (i := .ovf) hw (.inl hr) ht).trans (execOvf_of_stopped hstopped)

/-! ## A placed word -/

theorem placeWord_encode (i : Instr) (s : State) :
    placeWord (encode i) s =
      { s with trace := encode i :: s.trace, resetDone := true, tphase := (instrPhase i).getD s.tphase } := by
  simp only [placeWord, decodeWord_encode]
  cases instrPhase i <;> rfl

/-- Settles O10: the placed word waits first, and a RESET has been performed. -/
theorem placedWordRunsNext : Obligations.PlacedWordRunsNext := by
  intro s i hw
  rw [State.withFetchWord, BitVec.ofNat_toNat, BitVec.setWidth_eq, placeWord_encode]
  exact step_of_encode hw (.inl rfl) rfl

/-! ## The idle reset word -/

/-- RESET leaves the state after reset of the block's configuration and the given levels, and the inputs still to come
(R35, R135, log 20). -/
theorem execReset_eq (brk0 rst0 dt0 clk0 : Level) (s : State) :
    execReset brk0 rst0 dt0 clk0 s =
      .next { State.afterReset s.cfg brk0 rst0 dt0 clk0 with trace := s.trace, ports := s.ports } := rfl

/-- Settles O47: 0xF7 is the word of RESET with the idle levels, which runs before any RESET too. -/
theorem resetStateIsLeftByTheIdleResetWord : Obligations.ResetStateIsLeftByTheIdleResetWord := by
  intro s hcfg ht hp
  calc step s
      = exec (.reset RELEASED HIGH HIGH HIGH) { s with trace := [] } :=
        step_of_encode (hcfg ▸ by decide) (.inr rfl) ht
    _ = .next { State.afterReset s.cfg RELEASED HIGH HIGH HIGH with trace := [], ports := s.ports } :=
        execReset_eq RELEASED HIGH HIGH HIGH { s with trace := [] }
    _ = .next State.reset := by rw [hcfg, hp]; rfl

end Sys2Proof.Machine
end

section
/-! PROOFS. The quadrature decoder's edges as rules (41_quadrature_decoder.md R74 to R76), and one clean detent
(30_encoding.md R64, R78 d). -/

namespace Sys2Proof.Machine

/-! ## An edge of CLK outside Emergency -/

theorem opRotateRight_eq (s : State) :
    opRotateRight s =
      { s with
        mode := if s.mode = .debug then .debug else .right
        dpos := if s.mode = .debug then s.dpos + 1 else s.dpos } :=
  State.ext_iff.2 (by simp [opRotateRight_mode, opRotateRight_dpos])

theorem opRotateLeft_eq (s : State) :
    opRotateLeft s =
      { s with
        mode := if s.mode = .debug then .debug else .left
        dpos := if s.mode = .debug then s.dpos - 1 else s.dpos } :=
  State.ext_iff.2 (by simp [opRotateLeft_mode, opRotateLeft_dpos])

theorem opDecode_turns_left {s : State} {v : Level} (hcount : countAfter s v ≤ -(s.cfg.rotThresh : Int)) :
    opDecode v s =
      { s with
        desync := 0, clock := 0
        mode := if s.mode = .debug then .debug else .left
        dpos := if s.mode = .debug then s.dpos - 1 else s.dpos } :=
  (if_pos hcount).trans (opRotateLeft_eq _)

theorem opDecode_turns_right {s : State} {v : Level} (hpos : 0 < s.cfg.rotThresh)
    (hcount : (s.cfg.rotThresh : Int) ≤ countAfter s v) :
    opDecode v s =
      { s with
        desync := 0, clock := 0
        mode := if s.mode = .debug then .debug else .right
        dpos := if s.mode = .debug then s.dpos + 1 else s.dpos } :=
  (if_neg (show ¬ countAfter s v ≤ -(s.cfg.rotThresh : Int) by omega)).trans
    ((if_pos hcount).trans (opRotateRight_eq _))

/-- Strictly within the threshold an edge only counts (R74). -/
theorem opDecode_counts {s : State} {v : Level} (hlow : -(s.cfg.rotThresh : Int) < countAfter s v)
    (hhigh : countAfter s v < (s.cfg.rotThresh : Int)) : opDecode v s = { s with desync := countAfter s v } :=
  (if_neg (not_le.2 hlow)).trans (if_neg (not_le.2 hhigh))

/-- An edge outside Emergency is decoded, and its level stored (R74). -/
theorem exec_pinClk_edge {s : State} {v : Level} (hedge : v ≠ s.clkLevel) (hmode : s.mode ≠ .emergency) :
    exec (.pinClk v) s = .next { opDecode v s with clkLevel := v } := by
  rw [exec_pinClk, execPinClk, if_pos (isEdge_iff.2 hedge), if_neg hmode]

/-! ## One detent -/

section Detent

variable {s : State} (hthresh : s.cfg.rotThresh = 2) (hclk : s.clkLevel = HIGH) (hdt : s.inDt = HIGH)
  (hrest : s.desync = 0) (hmode : s.mode ≠ .emergency)
include hthresh hclk hdt hrest hmode

/-- DT moves first, so both CLK edges agree with DT: the count goes to 1 and to 2. -/
theorem runOps_detentR :
    runOps (pseudoOps .detentR) s = .next
      { s with
        clock := 0, mode := if s.mode = .debug then .debug else .right,
        dpos := if s.mode = .debug then s.dpos + 1 else s.dpos } := by
  have hfall : exec (.pinClk LOW) { s with inDt := LOW } =
      .next { s with inDt := LOW, desync := 1, clkLevel := LOW } := by
    rw [exec_pinClk_edge (by simp [hclk]) (by exact hmode), opDecode_counts] <;>
      simp [countAfter, hrest, hthresh]
  have hrise : exec (.pinClk HIGH) { s with inDt := HIGH, desync := 1, clkLevel := LOW } = .next
      { s with
        clock := 0, mode := if s.mode = .debug then .debug else .right,
        dpos := if s.mode = .debug then s.dpos + 1 else s.dpos } := by
    rw [exec_pinClk_edge (by simp) (by exact hmode), opDecode_turns_right] <;>
      simp [countAfter, hthresh, hclk, hdt, hrest]
  calc runOps (pseudoOps .detentR) s
      = runOps [.pinClk LOW, .pinDt HIGH, .pinClk HIGH] { s with inDt := LOW } := rfl
    _ = runOps [.pinDt HIGH, .pinClk HIGH] { s with inDt := LOW, desync := 1, clkLevel := LOW } :=
      runOps_cons_next hfall
    _ = runOps [.pinClk HIGH] { s with inDt := HIGH, desync := 1, clkLevel := LOW } := rfl
    _ = _ := (runOps_singleton _ _).trans hrise

/-- CLK moves first, so both CLK edges disagree with DT: the count goes to -1 and to -2. -/
theorem runOps_detentL :
    runOps (pseudoOps .detentL) s = .next
      { s with
        clock := 0, mode := if s.mode = .debug then .debug else .left,
        dpos := if s.mode = .debug then s.dpos - 1 else s.dpos } := by
  have hfall : exec (.pinClk LOW) s = .next { s with desync := -1, clkLevel := LOW } := by
    rw [exec_pinClk_edge (by simp [hclk]) hmode, opDecode_counts] <;>
      simp [countAfter, hrest, hthresh, hdt]
  have hrise : exec (.pinClk HIGH) { s with desync := -1, clkLevel := LOW, inDt := LOW } = .next
      { s with
        inDt := LOW, clock := 0, mode := if s.mode = .debug then .debug else .left,
        dpos := if s.mode = .debug then s.dpos - 1 else s.dpos } := by
    rw [exec_pinClk_edge (by simp) (by exact hmode), opDecode_turns_left] <;>
      simp [countAfter, hthresh, hclk, hrest]
  calc runOps (pseudoOps .detentL) s
      = runOps [.pinDt LOW, .pinClk HIGH, .pinDt HIGH] { s with desync := -1, clkLevel := LOW } :=
      runOps_cons_next hfall
    _ = runOps [.pinClk HIGH, .pinDt HIGH] { s with desync := -1, clkLevel := LOW, inDt := LOW } := rfl
    _ = runOps [.pinDt HIGH]
          { s with
            inDt := LOW, clock := 0, mode := if s.mode = .debug then .debug else .left,
            dpos := if s.mode = .debug then s.dpos - 1 else s.dpos } := runOps_cons_next hrise
    _ = _ := by rw [← hdt]; rfl

end Detent

/-- Settles O22: two agreeing CLK edges make a right step, two disagreeing ones a left step. -/
theorem detentEmitsOneRotation : Obligations.DetentEmitsOneRotation :=
  fun _ hthresh hclk hdt hrest hmode =>
    ⟨runOps_detentR hthresh hclk hdt hrest hmode, runOps_detentL hthresh hclk hdt hrest hmode⟩

end Sys2Proof.Machine
end

section
/-! PROOFS. The debounce gate (40_debounce_edge_detector.md R67), the PIN operations one by one (R66, R68 to R71), and
the operations of one instant in any order (R65, R126, R127). -/

namespace Sys2Proof.Machine

/-! ## The debounce gate -/

/-- On W-bit values `-w` is subtraction of bit vectors (R9). -/
theorem subW_toNat {w : Nat} (a b : BitVec w) : subW w a.toNat b.toNat = (a - b).toNat := by
  rw [subW, Nat.mod_eq_of_lt a.isLt, Nat.mod_eq_of_lt b.isLt, BitVec.toNat_sub, Nat.add_comm]

theorem accept_iff {w cur last min : Nat} : accept w cur last min = true ↔ min < subW w cur last ∨ cur < last := by
  simp [accept]

/-- The gate fails exactly from `last` to `last + min` (R72): there the difference does not wrap. -/
theorem accept_eq_false_iff {w cur last min : Nat} (hcur : cur < 2 ^ w) :
    accept w cur last min = false ↔ last ≤ cur ∧ cur ≤ last + min := by
  rw [← Bool.not_eq_true, accept_iff, not_or, not_lt, not_lt]
  constructor
  · rintro ⟨hdiff, hle⟩
    rw [subW_of_le hle hcur] at hdiff
    omega
  · rintro ⟨hle, hmin⟩
    rw [subW_of_le hle hcur]
    omega

/-- Settles O15: the comparison is R67's, and where it fails the subtraction does not wrap. -/
theorem acceptIsTheStatedComparison : Obligations.AcceptIsTheStatedComparison := by
  intro w cur last min
  rw [← subW_toNat]
  exact ⟨accept_iff, accept_eq_false_iff cur.isLt⟩

/-! ## The four lines -/

/-- An input line (R43), whose PIN operation compares its operand with an edge reference (R66). -/
inductive Line where
  | rst
  | brk
  | dt
  | clk

/-- The line as a source of operations. -/
def Line.source : Line → EventSource
  | .rst => .rst
  | .brk => .brk
  | .dt => .dt
  | .clk => .clk

/-- The PIN operation of the line. -/
def Line.op : Line → Level → Instr
  | .rst => .pinRst
  | .brk => .pinBrk
  | .dt => .pinDt
  | .clk => .pinClk

/-- The line's edge reference: the level last seen (R66). -/
def Line.reference : Line → State → Level
  | .rst => State.inRst
  | .brk => State.inBrk
  | .dt => State.inDt
  | .clk => State.clkLevel

/-- The operand that the levels on the lines give: the raw level, or the logical one of the brake (R56). -/
def Line.level : Line → Config → Lines → Level
  | .rst, _, ls => ls.btn
  | .brk, c, ls => brakeState c ls.brake
  | .dt, _, ls => ls.encDt
  | .clk, _, ls => ls.encClk

theorem Line.op_inj {l l' : Line} {u v : Level} (h : l.op u = l'.op v) : l = l' ∧ u = v := by
  cases l <;> cases l' <;> simp_all [Line.op]

theorem Line.op_ne_instr (l : Line) (v : Level) (p : TPhase) : l.op v ≠ p.instr := by
  cases l <;> cases p <;> exact Instr.noConfusion

theorem Line.instrPhase_op (l : Line) (v : Level) : instrPhase (l.op v) = none := by cases l <;> rfl

theorem Line.isReset_op (l : Line) (v : Level) : (l.op v).isReset = false := by cases l <;> rfl

theorem Line.exists_op_of_mnemonic {l : Line} {i : Instr} {u : Level} (h : i.mnemonic = (l.op u).mnemonic) :
    ∃ v, i = l.op v := by
  cases l <;> cases i <;> simp_all [Line.op, Instr.mnemonic]

theorem Line.sourceOp_source (l : Line) (s : State) (p : PortInputs) :
    sourceOp s p l.source = lineOp (l.reference s) (l.level s.cfg p.lines) l.op := by
  cases l <;> rfl

/-- Only the micro-operations are ever refused (R60, R120). -/
theorem exists_exec_next {i : Instr} (s : State) (hi : instrPhase i = none) : ∃ t, exec i s = .next t := by
  cases i with
  | nop | pinDt | reset => exact ⟨_, rfl⟩
  | pinClk v => simp only [exec_pinClk, execPinClk]; split_ifs <;> exact ⟨_, rfl⟩
  | pinRst v => simp only [exec_pinRst, execPinRst]; split_ifs <;> exact ⟨_, rfl⟩
  | pinBrk v => simp only [exec_pinBrk, execPinBrk]; split_ifs <;> exact ⟨_, rfl⟩
  | ovf => simp only [exec_ovf, execOvf]; split_ifs <;> exact ⟨_, rfl⟩
  | render | mirror | resync | advance => cases hi

theorem Line.exists_exec_op (l : Line) (v : Level) (s : State) : ∃ t, exec (l.op v) s = .next t :=
  exists_exec_next s (l.instrPhase_op v)

/-- A PIN operation stores its operand, and without an edge that is all (R66). -/
theorem Line.exec_op {l : Line} {v : Level} {s t : State} (h : exec (l.op v) s = .next t) :
    l.reference t = v ∧ (v = l.reference s → t = s) := by
  cases l with
  | rst =>
    rcases execPinRst_cases h with ⟨rfl, rfl⟩ | ⟨hv, -, rfl⟩ | ⟨hv, -, -, rfl⟩ | ⟨hv, -, -, rfl⟩
    · exact ⟨rfl, fun _ => rfl⟩
    all_goals exact ⟨by simp [Line.reference], fun he => absurd he hv⟩
  | brk =>
    rcases execPinBrk_cases h with ⟨rfl, rfl⟩ | ⟨hv, -, rfl⟩ | ⟨hv, -, rfl⟩
    · exact ⟨rfl, fun _ => rfl⟩
    all_goals exact ⟨rfl, fun he => absurd he hv⟩
  | dt =>
    injection h with h
    exact h ▸ ⟨rfl, fun he => he ▸ rfl⟩
  | clk =>
    rcases execPinClk_cases h with ⟨rfl, rfl⟩ | ⟨hv, -, rfl⟩ | ⟨hv, -, rfl⟩
    · exact ⟨rfl, fun _ => rfl⟩
    all_goals exact ⟨rfl, fun he => absurd he hv⟩

/-- The line's PIN operation is the only one, RESET aside, that writes its edge reference (R34). -/
theorem Line.reference_of_not_op {l : Line} {i : Instr} {s t : State} (hi : i.isReset = false)
    (hne : ∀ v, i ≠ l.op v) (h : exec i s = .next t) : l.reference t = l.reference s := by
  have hcol : i.mnemonic ≠ (l.op LOW).mnemonic := fun hm => (exists_op_of_mnemonic hm).elim hne
  obtain ⟨-, -, -, -, -, hclk, -, -, -, -, -, -, -, -, -, hdt, hrst, hbrk, -⟩ := writeSets i s t hi h
  cases l with
  | rst => exact not_not.1 (mt hrst hcol)
  | brk => exact not_not.1 (mt hbrk hcol)
  | dt => exact not_not.1 (mt hdt hcol)
  | clk => exact not_not.1 (mt hclk hcol)

/-! ## The PIN operations and NOP -/

/-- Settles O12: one rule for the four lines; an edge is a difference of levels. -/
theorem pinOperationsStoreTheirLevel : Obligations.PinOperationsStoreTheirLevel := by
  intro s v
  have hpin (l : Line) : ∃ t, exec (l.op v) s = .next t ∧ l.reference t = v ∧ (v = l.reference s → t = s) :=
    (l.exists_exec_op v s).imp fun _ h => ⟨h, l.exec_op h⟩
  refine ⟨hpin .clk, hpin .dt, hpin .rst, hpin .brk, fun r => ⟨isEdge_iff, ?_, ?_⟩⟩
  · simp [fallingEdge]
  · simp [risingEdge]

/-- Settles O11, by NOP's meaning. -/
theorem nopChangesNothing : Obligations.NopChangesNothing := fun _ => rfl

/-- Settles O13, by the meaning of PIN.DT. -/
theorem pinDtResult : Obligations.PinDtResult := fun _ _ => rfl

/-- Settles O14: no edge, a release edge, a hold edge. -/
theorem pinBrkResult : Obligations.PinBrkResult := by
  intro s v
  obtain ⟨t, h⟩ := Line.brk.exists_exec_op v s
  refine h.trans (congrArg _ ?_)
  rcases execPinBrk_cases h with ⟨rfl, rfl⟩ | ⟨hv, rfl, rfl⟩ | ⟨-, rfl, rfl⟩
  · simp
  · rw [if_pos ⟨by simpa using hv, rfl⟩]
  · simp

/-- Settles O16: no edge, a lost edge, a press, a release. -/
theorem pinRstResult : Obligations.PinRstResult := by
  intro s v hlow
  obtain ⟨t, h⟩ := Line.rst.exists_exec_op v s
  refine h.trans (congrArg _ ?_)
  have hpressed : isPressed s.cfg v = decide (v = LOW) := by rw [isPressed, hlow, beq_eq_decide]
  have haccept : accept s.cfg.clockBits s.clock s.lastResetTime s.cfg.debounceMin = gateOpen s := rfl
  rw [haccept]
  rcases execPinRst_cases h with ⟨hv, rfl⟩ | ⟨hv, hgate, rfl⟩ | ⟨hv, hgate, hp, rfl⟩ | ⟨hv, hgate, hp, rfl⟩
  · rw [if_pos hv]
  · rw [if_neg hv, if_pos hgate]
  · rw [if_neg hv, hgate, if_neg nofun, if_pos (of_decide_eq_true (hpressed ▸ hp))]
  · rw [if_neg hv, hgate, if_neg nofun, if_neg (of_decide_eq_false (hpressed ▸ hp))]

/-! ## Runs in which the micro-operations are in turn -/

theorem instrPhase_eq_some_iff {i : Instr} {p : TPhase} : instrPhase i = some p ↔ i = p.instr := by
  cases i <;> cases p <;> simp [instrPhase, TPhase.instr]

/-- Only a micro-operation or RESET writes `tphase` (R117). -/
theorem exec_tphase_of_no_phase {i : Instr} {s t : State} (hi : i.isReset = false) (hphase : instrPhase i = none)
    (h : exec i s = .next t) : t.tphase = s.tphase := by
  obtain ⟨-, -, -, -, -, -, -, -, -, -, -, -, -, -, htphase, -⟩ := writeSets i s t hi h
  refine not_not.1 (mt htphase ?_)
  cases i <;> simp_all [Instr.mnemonic, instrPhase]

/-- A run without RESET whose micro-operations are the next `n` in turn completes, and `tphase` has moved by `n`. -/
theorem exists_runOps_of_phases {ops : List Instr} {s : State} {n : Nat} (hreset : ∀ i ∈ ops, i.isReset = false)
    (hphases : ops.filterMap instrPhase = List.iterate TPhase.next s.tphase n) :
    ∃ t, runOps ops s = .next t ∧ t.tphase = TPhase.next^[n] s.tphase := by
  induction ops generalizing s n with
  | nil =>
    cases n with
    | zero => exact ⟨s, rfl, rfl⟩
    | succ n => cases hphases
  | cons i rest ih =>
    obtain ⟨hi, hrest⟩ := List.forall_mem_cons.1 hreset
    cases hphase : instrPhase i with
    | none =>
      obtain ⟨s', h⟩ := exists_exec_next s hphase
      rw [List.filterMap_cons_none hphase, ← exec_tphase_of_no_phase hi hphase h] at hphases
      rw [runOps_cons_next h, ← exec_tphase_of_no_phase hi hphase h]
      exact ih hrest hphases
    | some q =>
      rw [List.filterMap_cons_some hphase] at hphases
      cases n with
      | zero => cases hphases
      | succ n =>
        injection hphases with hq hphases
        subst hq
        rw [instrPhase_eq_some_iff.1 hphase, runOps_cons_next (exec_due rfl)]
        exact ih hrest hphases

/-- A run that has the line's operation with level `v` only, and has it if `v` is an edge, ends with `v` seen. -/
theorem Line.reference_runOps {l : Line} {v : Level} {ops : List Instr} {s t : State}
    (hreset : ∀ i ∈ ops, i.isReset = false) (honly : ∀ u, l.op u ∈ ops → u = v)
    (hedge : v ≠ l.reference s → l.op v ∈ ops) (h : runOps ops s = .next t) : l.reference t = v := by
  induction ops generalizing s with
  | nil =>
    injection h with h
    rw [← h]
    exact not_not.1 fun hne => List.not_mem_nil (hedge (Ne.symm hne))
  | cons i rest ih =>
    obtain ⟨hi, hrest⟩ := List.forall_mem_cons.1 hreset
    obtain ⟨s', hexec, hrun⟩ := runOps_cons_next_iff.1 h
    refine ih hrest (fun u hu => honly u (List.mem_cons_of_mem i hu)) (fun hne => ?_) hrun
    by_cases hop : ∃ u, i = l.op u
    · obtain ⟨u, rfl⟩ := hop
      have hu : u = v := honly u List.mem_cons_self
      exact absurd (hu.symm.trans (exec_op hexec).1.symm) hne
    · have hop' : ∀ u, i ≠ l.op u := not_exists.1 hop
      rw [reference_of_not_op hi hop' hexec] at hne
      exact (List.mem_cons.1 (hedge hne)).resolve_left (Ne.symm (hop' v))

/-! ## The operations of one instant -/

theorem lineOp_eq_some_iff {r v : Level} {mk : Level → Instr} {i : Instr} :
    lineOp r v mk = some i ↔ v ≠ r ∧ i = mk v := by
  rw [lineOp, Option.ite_none_right_eq_some, isEdge_iff, Option.some_inj, eq_comm (b := i)]

/-- What the sources can have: an overflow, an edge of a line, the micro-operation that is due. -/
theorem sourceOp_cases {s : State} {p : PortInputs} {e : EventSource} {i : Instr} (h : sourceOp s p e = some i) :
    i = .ovf ∨ (∃ l : Line, i = l.op (l.level s.cfg p.lines)) ∨ i = s.tphase.instr := by
  cases e with
  | ovf => exact .inl (Option.some_inj.1 (Option.ite_none_right_eq_some.1 h).2).symm
  | rst => exact .inr (.inl ⟨.rst, (lineOp_eq_some_iff.1 h).2⟩)
  | brk => exact .inr (.inl ⟨.brk, (lineOp_eq_some_iff.1 h).2⟩)
  | dt => exact .inr (.inl ⟨.dt, (lineOp_eq_some_iff.1 h).2⟩)
  | clk => exact .inr (.inl ⟨.clk, (lineOp_eq_some_iff.1 h).2⟩)
  | mainLoop => exact .inr (.inr (Option.some_inj.1 (Option.ite_none_right_eq_some.1 h).2).symm)

theorem TPhase.isReset_instr (p : TPhase) : p.instr.isReset = false := by cases p <;> rfl

/-- Of the sources only the main loop has a micro-operation, and only if one is due. -/
theorem bind_sourceOp_instrPhase (s : State) (p : PortInputs) (e : EventSource) :
    (sourceOp s p e).bind instrPhase = if e = .mainLoop ∧ mainLoopDue s p = true then some s.tphase else none := by
  cases e with
  | ovf | rst | brk | dt | clk =>
    rw [if_neg (fun h => nomatch h.1)]
    simp only [sourceOp, lineOp]
    split_ifs <;> rfl
  | mainLoop =>
    have hphase : instrPhase s.tphase.instr = some s.tphase := instrPhase_eq_some_iff.2 rfl
    cases hdue : mainLoopDue s p <;> simp [sourceOp, hdue, hphase]

section Instant

variable {s : State} {p : PortInputs} {ops : List Instr} (hw : s.cfg.wf = true) (hr : p.rstSys = false)
  (hops : ops.Perm (portOps s p))
include hw hr hops

theorem mem_instant_iff {i : Instr} : i ∈ ops ↔ ∃ e, sourceOp s p e = some i := by
  rw [(hops.trans (portOps_perm hw hr)).mem_iff, List.mem_filterMap]
  exact exists_congr fun e => and_iff_right (by cases e <;> decide)

theorem isReset_of_mem_instant : ∀ i ∈ ops, i.isReset = false := by
  intro i hi
  obtain ⟨e, he⟩ := (mem_instant_iff hw hr hops).1 hi
  rcases sourceOp_cases he with rfl | ⟨l, rfl⟩ | rfl
  · rfl
  · exact l.isReset_op _
  · exact s.tphase.isReset_instr

/-- At most one micro-operation, the one that is due. -/
theorem instant_phases :
    ops.filterMap instrPhase = List.iterate TPhase.next s.tphase (if mainLoopDue s p then 1 else 0) := by
  have hperm := (hops.trans (portOps_perm hw hr)).filterMap instrPhase
  rw [List.filterMap_filterMap, funext (bind_sourceOp_instrPhase s p)] at hperm
  cases hdue : mainLoopDue s p
  · exact List.perm_nil.1 (by simpa [hdue, allSources] using hperm)
  · exact List.perm_singleton.1 (by simpa [hdue, allSources] using hperm)

theorem eq_level_of_op_mem_instant {l : Line} {u : Level} (hu : l.op u ∈ ops) : u = l.level s.cfg p.lines := by
  obtain ⟨e, he⟩ := (mem_instant_iff hw hr hops).1 hu
  rcases sourceOp_cases he with h | ⟨l', h⟩ | h
  · cases l <;> cases h
  · obtain ⟨rfl, h⟩ := Line.op_inj h
    exact h
  · exact absurd h (l.op_ne_instr u s.tphase)

theorem op_mem_instant_of_edge {l : Line} (hedge : l.level s.cfg p.lines ≠ l.reference s) :
    l.op (l.level s.cfg p.lines) ∈ ops :=
  (mem_instant_iff hw hr hops).2 ⟨l.source, l.sourceOp_source s p ▸ lineOp_eq_some_iff.2 ⟨hedge, rfl⟩⟩

theorem Line.reference_after_instant (l : Line) {t : State} (hrun : runOps ops s = .next t) :
    l.reference t = l.level s.cfg p.lines :=
  l.reference_runOps (isReset_of_mem_instant hw hr hops) (fun _ => eq_level_of_op_mem_instant hw hr hops)
    (op_mem_instant_of_edge hw hr hops) hrun

end Instant

/-- Where the reference is the level on the line, the line has no operation. -/
theorem Line.sourceOp_eq_none {l : Line} {t : State} {p : PortInputs}
    (h : l.reference t = l.level t.cfg p.lines) : sourceOp t p l.source = none := by
  rw [sourceOp_source, h, lineOp_self]

/-- Settles O50: no operation of the instant is refused, each line's operation is in it if the line has an edge, and the
only one that moves `tphase` is the micro-operation that is due. -/
theorem coincidentEventsLeaveNoEdge : Obligations.CoincidentEventsLeaveNoEdge := by
  intro s p ops hw hr hops
  obtain ⟨t, hrun, htphase⟩ :=
    exists_runOps_of_phases (isReset_of_mem_instant hw hr hops) (instant_phases hw hr hops)
  have hseen (l : Line) : l.reference t = l.level s.cfg p.lines := l.reference_after_instant hw hr hops hrun
  have hnone (l : Line) : sourceOp t p l.source = none := l.sourceOp_eq_none (runOps_cfg hrun ▸ hseen l)
  refine ⟨t, hrun, hseen .rst, hseen .brk, hseen .dt, hseen .clk, ?_, fun e hovf hmain => ?_⟩
  · rw [htphase]
    by_cases hdue : p.tick = true ∨ s.tphase ≠ .render
    · rw [if_pos hdue, if_pos (by simpa [mainLoopDue] using hdue), Function.iterate_one]
    · rw [if_neg hdue, if_neg (by simpa [mainLoopDue] using hdue), Function.iterate_zero_apply]
  · cases e with
    | ovf => exact absurd rfl hovf
    | rst => exact hnone .rst
    | brk => exact hnone .brk
    | dt => exact hnone .dt
    | clk => exact hnone .clk
    | mainLoop => exact absurd rfl hmain

end Sys2Proof.Machine
end

section
/-! PROOFS. PIN.CLK in every mode (41_quadrature_decoder.md R74 to R76), an isolated glitch (R78 b), and the encoder in
Emergency (R77). -/

namespace Sys2Proof.Machine

/-! ## PIN.CLK, whole -/

/-- Settles O21: no edge, Emergency, a left turn, a right turn, a count within the threshold of 2. -/
theorem pinClkResult : Obligations.PinClkResult := by
  intro s v hthresh
  obtain ⟨t, h⟩ := Line.clk.exists_exec_op v s
  refine h.trans (congrArg _ ?_)
  rcases execPinClk_cases h with ⟨hv, rfl⟩ | ⟨hv, hmode, rfl⟩ | ⟨hv, hmode, rfl⟩
  · rw [if_pos hv]
  · rw [if_neg hv, if_pos hmode]
  rw [if_neg hv, if_neg hmode]
  by_cases hleft : countAfter s v < -1
  · rw [if_pos hleft, opDecode_turns_left (by omega)]
  by_cases hright : 1 < countAfter s v
  · rw [if_neg hleft, if_pos hright, opDecode_turns_right (by omega) (by omega)]
  · rw [if_neg hleft, if_neg hright, opDecode_counts (by omega) (by omega)]

/-! ## Emergency -/

/-- In Emergency a CLK level is stored, edge or not (R77). -/
theorem exec_pinClk_emergency {s : State} (v : Level) (hmode : s.mode = .emergency) :
    exec (.pinClk v) s = .next { s with clkLevel := v } := by
  obtain ⟨t, h⟩ := Line.clk.exists_exec_op v s
  refine h.trans (congrArg _ ?_)
  rcases execPinClk_cases h with ⟨rfl, rfl⟩ | ⟨-, -, rfl⟩ | ⟨-, hmode', -⟩
  · rfl
  · rfl
  · exact absurd hmode hmode'

/-- Settles O24, by induction on the operations: each stores one of the two samples and leaves the mode. -/
theorem emergencyIgnoresTheEncoder : Obligations.EmergencyIgnoresTheEncoder := by
  intro ops s hmode henc
  induction ops generalizing s with
  | nil => exact ⟨s.clkLevel, s.inDt, rfl⟩
  | cons i rest ih =>
    obtain ⟨hi, hrest⟩ := List.forall_mem_cons.1 henc
    rcases hi with hclk | hdt
    · obtain ⟨v, rfl⟩ := Line.exists_op_of_mnemonic (l := .clk) (u := LOW) hclk
      obtain ⟨clk, dt, hrun⟩ := ih { s with clkLevel := v } hmode hrest
      exact ⟨clk, dt, (runOps_cons_next (exec_pinClk_emergency v hmode)).trans hrun⟩
    · obtain ⟨v, rfl⟩ := Line.exists_op_of_mnemonic (l := .dt) (u := LOW) hdt
      obtain ⟨clk, dt, hrun⟩ := ih { s with inDt := v } hmode hrest
      exact ⟨clk, dt, (runOps_cons_next rfl).trans hrun⟩

/-! ## An edge and the edge back -/

/-- Strictly within the threshold an edge outside Emergency stores its level and the count (R74). -/
theorem exec_pinClk_counts {s : State} {v : Level} (hedge : v ≠ s.clkLevel) (hmode : s.mode ≠ .emergency)
    (hlow : -(s.cfg.rotThresh : Int) < countAfter s v) (hhigh : countAfter s v < (s.cfg.rotThresh : Int)) :
    exec (.pinClk v) s = .next { s with desync := countAfter s v, clkLevel := v } := by
  rw [exec_pinClk_edge hedge hmode, opDecode_counts hlow hhigh]

/-- Of the two levels one agrees with DT, so the votes of opposite edges cancel. -/
theorem countAfter_countAfter {s : State} {u v : Level} (hne : v ≠ u) :
    countAfter { s with desync := countAfter s v, clkLevel := v } u = s.desync := by
  by_cases hv : v = s.inDt
  · have hu : u ≠ s.inDt := hv ▸ hne.symm
    simp [countAfter, hv, hu]
  · have hu : u = s.inDt := Bool.not_inj ((Bool.eq_not.2 hne).symm.trans (Bool.eq_not.2 hv))
    simp [countAfter, hv, hu]

/-- From rest an edge is one vote, up or down (R74). -/
theorem countAfter_of_rest {s : State} (v : Level) (hrest : s.desync = 0) :
    countAfter s v = 1 ∨ countAfter s v = -1 := by
  rw [countAfter, hrest]
  split_ifs
  · exact .inl rfl
  · exact .inr rfl

/-- Outside Emergency a glitch only counts, there and back, if neither count reaches the threshold (R78 b). -/
theorem runOps_glitch {s : State} {v : Level} (hedge : v ≠ s.clkLevel) (hmode : s.mode ≠ .emergency)
    (hlow : -(s.cfg.rotThresh : Int) < s.desync) (hhigh : s.desync < (s.cfg.rotThresh : Int))
    (hlow' : -(s.cfg.rotThresh : Int) < countAfter s v) (hhigh' : countAfter s v < (s.cfg.rotThresh : Int)) :
    runOps [.pinClk v, .pinClk s.clkLevel] s = .next s := by
  have hcancel := countAfter_countAfter (s := s) hedge
  have hback := exec_pinClk_counts (s := { s with desync := countAfter s v, clkLevel := v }) hedge.symm hmode
    (hcancel.symm ▸ hlow) (hcancel.symm ▸ hhigh)
  rw [hcancel] at hback
  rw [runOps_cons_next (exec_pinClk_counts hedge hmode hlow' hhigh'), runOps_singleton, hback]

/-- In Emergency a glitch moves the stored level, there and back (R77). -/
theorem runOps_glitch_emergency {s : State} (v : Level) (hmode : s.mode = .emergency) :
    runOps [.pinClk v, .pinClk s.clkLevel] s = .next s := by
  rw [runOps_cons_next (exec_pinClk_emergency v hmode), runOps_singleton, exec_pinClk_emergency _ (by exact hmode)]

/-- Settles O23: from rest one vote stays within the threshold of 2. -/
theorem isolatedGlitchCancels : Obligations.IsolatedGlitchCancels := by
  intro s v hthresh hedge hrest
  by_cases hmode : s.mode = .emergency
  · exact runOps_glitch_emergency v hmode
  · have hvote := countAfter_of_rest v hrest
    exact runOps_glitch hedge hmode (by omega) (by omega) (by omega) (by omega)

end Sys2Proof.Machine
end

section
/-! PROOFS. The hold timer (42_hold_timer.md): OVF with its long press (R82 to R84), the long press of one hold (R86),
and the countdown's clear line (R43, R80, R85). -/

namespace Sys2Proof.Machine

/-! ## OVF -/

/-- LONGPRESS writes the mode and no other register (R84, D16). -/
theorem opLongPress_eq (s : State) :
    opLongPress s = { s with mode := if s.mode = .emergency ∨ s.mode = .debug then .off else .emergency } :=
  State.ext_iff.2 (by simp [opLongPress_mode])

/-- An overflow of the running timer counts within HOLD_LIMIT, and past it fires: the timer is stopped and cleared and
the mode changes (R82 to R84, D18). -/
theorem exec_ovf_of_armed {s : State} (harmed : s.armed = true) :
    exec .ovf s = .next
      (if s.holdCounter + 1 ≤ s.cfg.holdLimit then { s with holdCounter := s.holdCounter + 1, tcntCleared := false }
      else
        { s with
          armed := false, holdCounter := 0, tcntCleared := true,
          mode := if s.mode = .emergency ∨ s.mode = .debug then .off else .emergency }) := by
  rw [exec_ovf, execOvf, if_pos harmed]
  by_cases hlimit : s.holdCounter + 1 ≤ s.cfg.holdLimit
  · rw [if_pos hlimit]
    exact if_neg (not_lt.2 hlimit)
  · rw [if_neg hlimit]
    exact (if_pos (not_le.1 hlimit)).trans (congrArg _ (opLongPress_eq _))

/-- Settles O26: the timer is stopped or runs. -/
theorem ovfResult : Obligations.OvfResult := by
  intro s
  by_cases hstopped : s.armed = false
  · rw [if_pos hstopped]
    exact execOvf_of_stopped hstopped
  · rw [if_neg hstopped, exec_ovf_of_armed (Bool.eq_true_of_not_eq_false hstopped), ← ite_not]
    simp only [not_le]

/-! ## One hold -/

theorem runOps_concat_next {ops : List Instr} {i : Instr} {s t : State} (h : runOps ops s = .next t) :
    runOps (ops ++ [i]) s = exec i t := by
  rw [runOps_append, h]
  exact runOps_singleton i t

/-- Settles O27, by induction on the overflows: the next one finds the timer running, with the count at those so far, or
stopped by the long press. -/
theorem longPressFiresOncePerHold : Obligations.LongPressFiresOncePerHold := by
  intro n s harmed hcount
  induction n with
  | zero => rw [List.replicate_one, runOps_singleton, exec_ovf_of_armed harmed, hcount]
  | succ n ih =>
    rw [List.replicate_succ', runOps_concat_next ih]
    by_cases hcounted : n + 1 ≤ s.cfg.holdLimit
    · rw [if_pos hcounted]
      exact exec_ovf_of_armed harmed
    · rw [if_neg hcounted, if_neg (show ¬ n + 1 + 1 ≤ s.cfg.holdLimit by omega)]
      exact execOvf_of_stopped rfl

/-! ## The clear line of the countdown -/

theorem ovfFires_iff {s : State} : ovfFires s = true ↔ s.armed = true ∧ s.cfg.holdLimit < s.holdCounter + 1 := by
  rw [ovfFires, Bool.and_eq_true, decide_eq_true_eq]

theorem tmrClr_pinRst_iff {v : Level} {s : State} :
    tmrClr (.pinRst v) s = true ↔ v ≠ s.inRst ∧ gateOpen s = true := by
  rw [tmrClr, Bool.and_eq_true, isEdge_iff]

theorem tmrClr_ovf_iff {s : State} :
    tmrClr .ovf s = true ↔ s.armed = true ∧ s.cfg.holdLimit < s.holdCounter + 1 := ovfFires_iff

theorem tmrClr_resync_iff {s : State} :
    tmrClr .resync s = true ↔
      s.tphase = .resync ∧ s.inRst ≠ s.cfg.rstPressedLevel ∧ resyncGateOk s = true := by
  rw [tmrClr, Bool.and_eq_true, decide_eq_true_eq, resyncDisarms_iff]

/-- Every operation that pulses the line is an ARM, a DISARM or RESET: it clears the count and the countdown, and only a press
leaves the timer running (R80 to R82, R135). -/
theorem exec_clears_of_tmrClr {i : Instr} {s t : State} (hclr : tmrClr i s = true) (h : exec i s = .next t) :
    t.holdCounter = 0 ∧ t.tcntCleared = true ∧ (t.armed = true ↔ i = .pinRst s.cfg.rstPressedLevel) := by
  cases i with
  | pinRst v =>
    obtain ⟨hedge, hgate⟩ := tmrClr_pinRst_iff.1 hclr
    rcases execPinRst_cases h with ⟨hv, -⟩ | ⟨-, hshut, -⟩ | ⟨-, -, hpressed, rfl⟩ | ⟨-, -, hreleased, rfl⟩
    · exact absurd hv hedge
    · exact absurd hgate (by simp [hshut])
    · have hv : v = s.cfg.rstPressedLevel := by simpa [isPressed] using hpressed
      simp [hv]
    · simp [isPressed_eq_false_iff.1 hreleased]
  | ovf =>
    obtain ⟨hrun, hfires⟩ := tmrClr_ovf_iff.1 hclr
    rcases execOvf_cases h with ⟨hstopped, -⟩ | ⟨-, hlimit, -⟩ | ⟨-, -, rfl⟩
    · exact absurd hrun (by simp [hstopped])
    · exact absurd hfires (not_lt.2 hlimit)
    · simp
  | resync =>
    obtain ⟨hturn, hdisarms⟩ := tmrClr_resync_iff.1 hclr
    rw [exec_resync_of_turn hturn, if_pos hdisarms] at h
    injection h with h
    simp [← h]
  | reset brk0 rst0 dt0 clk0 => injection h with h; simp [← h]
  | nop | pinClk | pinDt | pinBrk | render | mirror | advance => cases hclr

/-- Without the pulse the timer goes on as it was: `armed` is kept, and only OVF while armed counts, by one (R83). -/
theorem exec_keeps_of_not_tmrClr {i : Instr} {s t : State} (hclr : tmrClr i s = false) (h : exec i s = .next t) :
    t.armed = s.armed ∧
      (t.holdCounter ≠ s.holdCounter → i = .ovf ∧ s.armed = true ∧ t.holdCounter = s.holdCounter + 1) := by
  have hquiet := Bool.eq_false_iff.1 hclr
  cases i with
  | pinRst v =>
    rcases execPinRst_cases h with ⟨-, rfl⟩ | ⟨-, -, rfl⟩ | ⟨hedge, hgate, -, -⟩ | ⟨hedge, hgate, -, -⟩
    · exact ⟨rfl, fun hne => absurd rfl hne⟩
    · exact ⟨rfl, fun hne => absurd rfl hne⟩
    · exact absurd (tmrClr_pinRst_iff.2 ⟨hedge, hgate⟩) hquiet
    · exact absurd (tmrClr_pinRst_iff.2 ⟨hedge, hgate⟩) hquiet
  | ovf =>
    rcases execOvf_cases h with ⟨-, rfl⟩ | ⟨hrun, -, rfl⟩ | ⟨hrun, hfires, -⟩
    · exact ⟨rfl, fun hne => absurd rfl hne⟩
    · exact ⟨rfl, fun _ => ⟨rfl, hrun, rfl⟩⟩
    · exact absurd (tmrClr_ovf_iff.2 ⟨hrun, hfires⟩) hquiet
  | resync =>
    obtain ⟨hturn, -⟩ := inTurn_next_iff.1 h
    rw [exec_resync_of_turn hturn, if_neg fun hd => hquiet (tmrClr_resync_iff.2 ⟨hturn, hd⟩)] at h
    injection h with h
    exact h ▸ ⟨rfl, fun hne => absurd rfl hne⟩
  | reset brk0 rst0 dt0 clk0 => cases hclr
  | nop | pinClk | pinDt | pinBrk | render | mirror | advance =>
    obtain ⟨-, -, -, -, -, -, -, harmed, hcount, -⟩ := writeSets _ s t rfl h
    exact ⟨not_not.1 (mt harmed (by simp [Instr.mnemonic])),
      fun hne => absurd (hcount hne) (by simp [Instr.mnemonic])⟩

/-- Settles O49: when each operation pulses the line, and what a pulse and its absence mean for the timer. -/
theorem clearLinePulsesOnArmAndDisarm : Obligations.ClearLinePulsesOnArmAndDisarm := by
  refine ⟨fun i s => ?_, fun i s t h => ⟨fun hclr => exec_clears_of_tmrClr hclr h,
    fun hclr => exec_keeps_of_not_tmrClr hclr h⟩⟩
  cases i with
  | pinRst v => simp [tmrClr_pinRst_iff, gateOpen, Instr.isReset]
  | ovf => simp [tmrClr_ovf_iff, Instr.isReset]
  | resync => simp [tmrClr_resync_iff, Instr.isReset]
  | nop | pinClk | pinDt | pinBrk | render | mirror | advance | reset => simp [tmrClr, Instr.isReset]

end Sys2Proof.Machine
end

section
/-! PROOFS. The accepted edges of the reset pin with every register's value (43_mode_state_machine.md R88 to R91), the
debug-entry window (R89), and RENDER during the test sequence (R92). -/

namespace Sys2Proof.Machine

/-! ## An accepted edge -/

/-- An edge that passes the gate stores its level and is a PRESS or a RELEASE (R68). -/
theorem exec_pinRst_of_accepted {s : State} {v : Level} (hedge : v ≠ s.inRst) (hgate : gateOpen s = true) :
    exec (.pinRst v) s = .next (opResetEdge v { s with inRst := v }) := by
  rw [exec_pinRst, execPinRst, if_pos (isEdge_iff.2 hedge)]
  exact if_pos hgate

theorem opResetEdge_pressed {s : State} {v : Level} (h : v = s.cfg.rstPressedLevel) : opResetEdge v s = opPress s :=
  if_pos (by simp [isPressed, h])

theorem opResetEdge_released {s : State} {v : Level} (h : v ≠ s.cfg.rstPressedLevel) :
    opResetEdge v s = opRelease s := if_neg (by simp [isPressed, h])

/-! ## PRESS and RELEASE, whole -/

theorem promotes_inRst (s : State) (v : Level) : promotes { s with inRst := v } ↔ promotes s := Iff.rfl

/-- A press that promotes to Debug starts the test sequence and arms the hold timer (R81, R88, R89, R91). -/
theorem opPress_of_promotes {s : State} (h : promotes s) :
    opPress s =
      { s with
        lastResetTime := s.clock, mode := .debug, dbgCount := 0,
        seqActive := true, seqStep := 0, seqTimer := 0, out := s.cfg.testSeqImage 0,
        armed := true, holdCounter := 0, tcntCleared := true } :=
  State.ext_iff.2 (by simp [h, opPress_mode, opPress_clock, opPress_epat, opPress_dbgCount, opPress_seq])

/-- Any other press counts or clears the count, moves the mode or the pattern, and arms the timer (R81, R88, R89). -/
theorem opPress_of_not_promotes {s : State} (h : ¬ promotes s) :
    opPress s =
      { s with
        lastResetTime := s.clock,
        mode := if s.mode = .emergency ∨ s.mode = .debug then s.mode else .off,
        clock := if s.mode = .emergency then 0 else s.clock,
        epat := if s.mode = .emergency then s.epat.next else s.epat,
        dbgCount :=
          if s.inBrk = RELEASED then 0 else if s.mode = .debug then s.dbgCount
          else if qualifies s = true then s.dbgCount + 1 else 0,
        armed := true, holdCounter := 0, tcntCleared := true } :=
  State.ext_iff.2 (by simp [h, opPress_mode, opPress_clock, opPress_epat, opPress_dbgCount, opPress_seq])

/-- Settles O17: the press promotes or not. -/
theorem pressResult : Obligations.PressResult := by
  intro s image hlow hpresses himage hup hgate
  have hpromotes : promotes s ↔ s.inBrk = HELD ∧ s.mode ≠ .debug ∧ qualifies s = true ∧ 10 < s.dbgCount + 1 := by
    rw [promotes, hpresses]
    exact Iff.rfl
  rw [exec_pinRst_of_accepted (by simp [hup]) hgate, opResetEdge_pressed (by exact hlow.symm),
    ← testSeqImage_of_entry himage]
  by_cases hp : promotes s
  · rw [if_pos (hpromotes.1 hp), opPress_of_promotes ((promotes_inRst s LOW).2 hp)]
  · rw [if_neg (mt hpromotes.2 hp), opPress_of_not_promotes (mt (promotes_inRst s LOW).1 hp)]
    rfl

/-- Settles O19: the gate is open and the new level reads released, so the edge is RELEASE. -/
theorem releaseResult : Obligations.ReleaseResult := by
  intro s hlow hdown hgate
  rw [exec_pinRst_of_accepted (by simp [hdown]) hgate, opResetEdge_released (by simp [hlow])]
  rfl

/-! ## The debug-entry window -/

theorem qualifies_iff {s : State} :
    qualifies s = true ↔
      subW s.cfg.clockBits s.clock s.lastResetTime ≤ s.cfg.debugWindow ∨ s.clock < s.lastResetTime := by
  simp [qualifies]

/-- Settles O18: unless the clock is below the last accepted edge, the difference does not wrap. -/
theorem debugWindowIsTheStatedComparison : Obligations.DebugWindowIsTheStatedComparison := by
  intro s hclock _
  rw [qualifies_iff]
  by_cases hwrap : s.clock < s.lastResetTime
  · simp only [hwrap, or_true, true_or]
  · rw [subW_of_le (not_lt.1 hwrap) hclock]
    omega

/-! ## RENDER during the test sequence -/

theorem opRender_of_active {s : State} (h : s.seqActive = true) : opRender s = opSeqStep s := if_pos h

/-- Settles O29: within a step, at the end of the sequence, at the end of another step. -/
theorem renderStepsTheTestSequence : Obligations.RenderStepsTheTestSequence := by
  intro s image hphase hactive hsteps himage
  have hrender : exec .render s = .next { opSeqStep s with tphase := .mirror } :=
    opRender_of_active hactive ▸ exec_due (p := .render) hphase
  rw [hrender, ← testSeqImage_of_entry himage]
  by_cases hwithin : s.seqTimer + 1 ≠ s.cfg.seqStepTicks
  · rw [if_pos hwithin, opSeqStep_within_step hwithin]
  · have hend := not_not.1 hwithin
    rw [if_neg hwithin]
    by_cases hlast : s.seqStep = 14
    · rw [if_pos hlast, opSeqStep_at_sequence_end hend (by omega)]
    · rw [if_neg hlast, opSeqStep_at_step_end hend (by omega)]

end Sys2Proof.Machine
end

section
/-! PROOFS. The mode graph over all operations: the ways into and out of Debug and Emergency (43_mode_state_machine.md
R93), the sub-modes (R94 to R96), and the presses Debug mode needs (R98). -/

namespace Sys2Proof.Machine

/-! ## PIN.RST and PIN.CLK as the mode sees them -/

/-- PIN.RST is an accepted press, or it leaves the mode, the pattern and the count alone. -/
theorem execPinRst_press_or_keeps {v : Level} {s t : State} (h : execPinRst v s = .next t) :
    (acceptedPress (.pinRst v) s ∧ t = opPress { s with inRst := v }) ∨
    (t.mode = s.mode ∧ t.epat = s.epat ∧ t.dbgCount = s.dbgCount) := by
  rcases execPinRst_cases h with ⟨-, rfl⟩ | ⟨-, -, rfl⟩ | ⟨hedge, hgate, hpressed, rfl⟩ | ⟨-, -, -, rfl⟩
  · exact .inr ⟨rfl, rfl, rfl⟩
  · exact .inr ⟨rfl, rfl, rfl⟩
  · exact .inl ⟨acceptedPress_pinRst_iff.2 ⟨hedge, hgate, hpressed⟩, rfl⟩
  · exact .inr ⟨rfl, rfl, rfl⟩

/-- A rotation moves the position in Debug and selects a side elsewhere (R75, R76, R95); a count does neither. -/
theorem opDecode_mode_dpos (v : Level) (s : State) :
    ((opDecode v s).mode = s.mode ∨
      s.mode ≠ .debug ∧ ((opDecode v s).mode = .left ∨ (opDecode v s).mode = .right)) ∧
    ((opDecode v s).dpos = s.dpos ∨
      s.mode = .debug ∧ ((opDecode v s).dpos = s.dpos + 1 ∨ (opDecode v s).dpos = s.dpos - 1)) := by
  rcases opDecode_cases v s with ⟨-, e⟩ | ⟨-, -, e⟩ | ⟨-, -, e⟩ <;> rw [e]
  · by_cases hm : s.mode = .debug <;> simp [opRotateLeft_mode, opRotateLeft_dpos, hm]
  · by_cases hm : s.mode = .debug <;> simp [opRotateRight_mode, opRotateRight_dpos, hm]
  · exact ⟨.inl rfl, .inl rfl⟩

/-! ## The mode graph -/

/-- What an operation can do to the mode (R93): keep it; move among Off, Left and Right; promote; a long press. -/
theorem exec_mode_cases {i : Instr} {s t : State} (hi : i.isReset = false) (h : exec i s = .next t) :
    t.mode = s.mode ∨
    (s.mode ≠ .debug ∧ s.mode ≠ .emergency ∧ t.mode ≠ .debug ∧ t.mode ≠ .emergency) ∨
    (acceptedPress i s ∧ promotes s ∧ t.mode = .debug ∧ t.seqActive = true) ∨
    (i = .ovf ∧ ovfFires s = true ∧
      t.mode = if s.mode = .emergency ∨ s.mode = .debug then .off else .emergency) := by
  cases i with
  | pinClk v =>
    rcases execPinClk_cases h with ⟨-, rfl⟩ | ⟨-, -, rfl⟩ | ⟨-, hmode, rfl⟩
    · exact .inl rfl
    · exact .inl rfl
    · rcases (opDecode_mode_dpos v s).1 with hkept | ⟨hdebug, hside⟩
      · exact .inl hkept
      · exact .inr (.inl ⟨hdebug, hmode, by rcases hside with hs | hs <;> simp [hs]⟩)
  | pinRst v =>
    rcases execPinRst_press_or_keeps h with ⟨hpress, rfl⟩ | ⟨hkept, -, -⟩
    · by_cases hp : promotes s
      · rw [opPress_of_promotes ((promotes_inRst s v).2 hp)]
        exact .inr (.inr (.inl ⟨hpress, hp, rfl, rfl⟩))
      · rw [opPress_of_not_promotes (mt (promotes_inRst s v).1 hp)]
        by_cases hm : s.mode = .emergency ∨ s.mode = .debug
        · exact .inl (if_pos hm)
        · obtain ⟨hemergency, hdebug⟩ := not_or.1 hm
          exact .inr (.inl ⟨hdebug, hemergency, by simp [hm]⟩)
    · exact .inl hkept
  | ovf =>
    rcases execOvf_cases h with ⟨-, rfl⟩ | ⟨-, -, rfl⟩ | ⟨harmed, hlimit, rfl⟩
    · exact .inl rfl
    · exact .inl rfl
    · exact .inr (.inr (.inr ⟨rfl, ovfFires_iff.2 ⟨harmed, hlimit⟩, opLongPress_mode _⟩))
  | reset brk0 rst0 dt0 clk0 => cases hi
  | nop | pinDt | pinBrk | render | mirror | resync | advance =>
    obtain ⟨hmode, -⟩ := writeSets _ s t rfl h
    exact .inl (not_not.1 (mt hmode (by simp [Instr.mnemonic])))

/-- Settles O54: of the edges of the mode graph only promotion enters Debug, only a long press leaves it or enters
Emergency, and these two leave Emergency. -/
theorem debugAndEmergencyEntryAndExit : Obligations.DebugAndEmergencyEntryAndExit := by
  intro i s t hi h
  rcases exec_mode_cases hi h with hkept | ⟨hd, he, hd', he'⟩ | ⟨hpress, hp, hdebug, hseq⟩ | ⟨hovf, hfires, hmode⟩
  · rw [hkept]
    exact ⟨fun hne he => absurd he hne, absurd, fun hne he => absurd he hne, absurd⟩
  · exact ⟨fun _ => (absurd · hd'), (absurd · hd), fun _ => (absurd · he'), (absurd · he)⟩
  · exact ⟨fun _ _ => ⟨hpress, hp, hseq⟩, fun _ hne => absurd hdebug hne, by simp [hdebug],
      fun _ _ => .inr ⟨hpress, hp, hdebug⟩⟩
  · by_cases hm : s.mode = .emergency ∨ s.mode = .debug
    · rw [if_pos hm] at hmode
      exact ⟨by simp [hmode], fun _ _ => ⟨hovf, hfires, hmode⟩, by simp [hmode], fun _ _ => .inl ⟨hovf, hfires, hmode⟩⟩
    · obtain ⟨he, hd⟩ := not_or.1 hm
      rw [if_neg hm] at hmode
      exact ⟨by simp [hmode], (absurd · hd), fun _ _ => ⟨hovf, hfires, hd⟩, (absurd · he)⟩

/-! ## The sub-modes -/

/-- Settles O55: of the two operations with a sub-mode in their column of R34, an accepted press in Emergency moves the
pattern and a rotation in Debug the position. -/
theorem subModesAreKept : Obligations.SubModesAreKept := by
  intro i s t hi h
  obtain ⟨-, hepat, hdpos, -⟩ := writeSets i s t hi h
  constructor
  · intro hne
    obtain ⟨v, rfl⟩ := Line.exists_op_of_mnemonic (l := .rst) (u := LOW) (hepat hne)
    rcases execPinRst_press_or_keeps h with ⟨hpress, rfl⟩ | ⟨-, hkept, -⟩
    · rw [opPress_epat] at hne ⊢
      have hmoved : s.mode = .emergency ∧ ¬ promotes s := not_not.1 fun hn => hne (if_neg hn)
      exact ⟨hmoved.1, hpress, hmoved.2, if_pos hmoved⟩
    · exact absurd hkept hne
  · intro hne
    obtain ⟨v, rfl⟩ := Line.exists_op_of_mnemonic (l := .clk) (u := LOW) (hdpos hne)
    rcases execPinClk_cases h with ⟨-, rfl⟩ | ⟨-, -, rfl⟩ | ⟨-, -, rfl⟩
    · exact absurd rfl hne
    · exact absurd rfl hne
    · obtain ⟨hdebug, hplace⟩ := (opDecode_mode_dpos v s).2.resolve_left hne
      exact ⟨hdebug, rfl, hplace⟩

/-! ## The presses Debug mode needs -/

/-- Debug is entered by a promoting press, whatever the operation: RESET leads to Off. -/
theorem acceptedPress_of_exec_enters_debug {i : Instr} {s t : State} (h : exec i s = .next t) (hs : s.mode ≠ .debug)
    (ht : t.mode = .debug) : acceptedPress i s ∧ promotes s := by
  cases hi : i.isReset
  · obtain ⟨hpress, hp, -⟩ := (debugAndEmergencyEntryAndExit i s t hi h).1 hs ht
    exact ⟨hpress, hp⟩
  · cases i <;> simp [Instr.isReset] at hi
    injection h with h
    exact absurd ht (h ▸ nofun)

/-- Only a "pressed" word counts, and by one (R89). -/
theorem exec_dbgCount_le {i : Instr} {s t : State} (h : exec i s = .next t) :
    t.dbgCount ≤ s.dbgCount + if i = .pinRst s.cfg.rstPressedLevel then 1 else 0 := by
  cases i with
  | pinRst v =>
    rcases execPinRst_press_or_keeps h with ⟨⟨hv, -, -⟩, rfl⟩ | ⟨-, -, hkept⟩
    · rw [if_pos hv, opPress_dbgCount]
      split_ifs <;> simp
    · rw [hkept]
      exact Nat.le_add_right _ _
  | pinBrk v =>
    rcases execPinBrk_cases h with ⟨-, rfl⟩ | ⟨-, -, rfl⟩ | ⟨-, -, rfl⟩ <;> simp
  | reset brk0 rst0 dt0 clk0 => injection h with h; simp [← h]
  | nop | pinClk | pinDt | ovf | render | mirror | resync | advance =>
    obtain ⟨-, -, -, -, -, -, -, -, -, hcount, -⟩ := writeSets _ s t rfl h
    rw [not_not.1 (mt hcount (by simp [Instr.mnemonic]))]
    exact Nat.le_add_right _ _

/-- A run into Debug mode brings the count, and the "pressed" words it holds, to DEBUG_PRESSES. -/
theorem debugPresses_le_of_runOps {ops : List Instr} {s t : State} (hs : s.mode ≠ .debug)
    (h : runOps ops s = .next t) (ht : t.mode = .debug) :
    s.cfg.debugPresses ≤ s.dbgCount + ops.count (.pinRst s.cfg.rstPressedLevel) := by
  induction ops generalizing s with
  | nil =>
    injection h with h
    exact absurd (h ▸ ht) hs
  | cons i rest ih =>
    obtain ⟨s', hi, hrest⟩ := runOps_cons_next_iff.1 h
    simp only [List.count_cons, beq_iff_eq]
    by_cases hs' : s'.mode = .debug
    · obtain ⟨⟨hword, -, -⟩, -, -, -, hlast⟩ := acceptedPress_of_exec_enters_debug hi hs hs'
      rw [if_pos hword]
      omega
    · have hcount := exec_dbgCount_le hi
      have hlater := ih hs' hrest
      rw [exec_cfg hi] at hlater
      omega

/-- Settles O56: from a count of 0 the words make up all of DEBUG_PRESSES. -/
theorem debugModeNeedsItsPresses : Obligations.DebugModeNeedsItsPresses := by
  intro ops s t hs hzero h ht
  simpa [hzero] using debugPresses_le_of_runOps hs h ht

end Sys2Proof.Machine
end

section
/-! PROOFS. Repeated blocks of operations (30_encoding.md R63, R64): eleven detents in Debug mode
(43_mode_state_machine.md R95), and the test sequence over 900 ticks (R92). -/

namespace Sys2Proof.Machine

theorem runOps_timesOps_succ {n : Nat} {ops : List Instr} {s t : State} (h : runOps (timesOps n ops) s = .next t) :
    runOps (timesOps (n + 1) ops) s = runOps ops t := by
  rw [timesOps, List.replicate_succ', List.flatten_append, List.flatten_singleton, runOps_append]
  exact h ▸ rfl

/-! ## Detents in Debug mode -/

/-- In Debug mode each right detent moves `dpos` by one place and nothing else but the clock (R95). -/
theorem runOps_timesOps_detentR {s : State} (hthresh : s.cfg.rotThresh = 2) (hclk : s.clkLevel = HIGH)
    (hdt : s.inDt = HIGH) (hrest : s.desync = 0) (hmode : s.mode = .debug) (n : Nat) :
    runOps (timesOps (n + 1) (pseudoOps .detentR)) s = .next { s with clock := 0, dpos := s.dpos + (n + 1) • 1 } := by
  induction n with
  | zero =>
    rw [runOps_timesOps_succ (n := 0) (t := s) rfl, runOps_detentR hthresh hclk hdt hrest (by simp [hmode])]
    simp [hmode]
  | succ n ih =>
    rw [runOps_timesOps_succ ih, runOps_detentR (by exact hthresh) (by exact hclk) (by exact hdt) (by exact hrest)
      (by simp [hmode])]
    simp [hmode, succ_nsmul _ (n + 1), add_assoc]

/-- Settles O25: eleven places are the whole cycle. -/
theorem elevenDetentsReturnThePosition : Obligations.ElevenDetentsReturnThePosition := by
  intro s hthresh hclk hdt hrest hmode
  have hcycle : (11 : Nat) • (1 : Fin nDebugPos) = 0 := by decide
  rw [runOps_timesOps_detentR hthresh hclk hdt hrest hmode 10, hcycle, add_zero]

/-! ## One tick -/

/-- The state after a whole tick (R113): the four micro-operations in their order, each leaving `tphase` at the next one
(R117). -/
def afterTick (s : State) : State :=
  let rendered := { opRender s with tphase := .mirror }
  let mirrored := { opMirror rendered with tphase := .resync }
  let resynced := { opResync mirrored with tphase := .advance }
  { opAdvance resynced with tphase := .render }

theorem runOps_tickOps {s : State} (hphase : s.tphase = .render) : runOps tickOps s = .next (afterTick s) :=
  calc runOps tickOps s
    _ = runOps [.mirror, .resync, .advance] { opRender s with tphase := .mirror } :=
      runOps_cons_next (exec_due (p := .render) hphase)
    _ = _ := runOps_cons_next (exec_due (p := .mirror) rfl)
    _ = _ := runOps_cons_next (exec_due (p := .resync) rfl)
    _ = _ := runOps_cons_next (exec_due (p := .advance) rfl)

@[simp] theorem afterTick_tphase (s : State) : (afterTick s).tphase = .render := rfl
@[simp] theorem afterTick_cfg (s : State) : (afterTick s).cfg = s.cfg := by simp [afterTick]
@[simp] theorem afterTick_mode (s : State) : (afterTick s).mode = s.mode := by simp [afterTick]
@[simp] theorem afterTick_clock (s : State) : (afterTick s).clock = addW s.cfg.clockBits s.clock 1 := by
  simp [afterTick]
@[simp] theorem afterTick_seqActive (s : State) : (afterTick s).seqActive = (opRender s).seqActive := by
  simp [afterTick]
@[simp] theorem afterTick_seqStep (s : State) : (afterTick s).seqStep = (opRender s).seqStep := by simp [afterTick]
@[simp] theorem afterTick_seqTimer (s : State) : (afterTick s).seqTimer = (opRender s).seqTimer := by simp [afterTick]

/-- In Debug mode and during the test sequence MIRROR changes nothing (R114). -/
theorem opMirror_of_active_or_debug {s : State} (h : s.seqActive = true ∨ s.mode = .debug) : opMirror s = s :=
  if_neg (by rcases h with h | h <;> simp [h])

/-- In Debug mode and while the sequence goes on, a tick ends with what RENDER showed. -/
theorem afterTick_out {s : State} (h : (opRender s).seqActive = true ∨ s.mode = .debug) :
    (afterTick s).out = (opRender s).out := by
  rw [← opRender_mode s] at h
  simp only [afterTick, opAdvance_out, opResync_out]
  rw [opMirror_of_active_or_debug (by exact h)]

/-! ## Ticks one after the other -/

/-- Whole ticks complete, however many: each leaves RENDER due. -/
theorem runOps_timesOps_tickOps {s : State} (hphase : s.tphase = .render) (n : Nat) :
    runOps (timesOps n tickOps) s = .next (afterTick^[n] s) ∧ (afterTick^[n] s).tphase = .render := by
  induction n with
  | zero => exact ⟨rfl, hphase⟩
  | succ n ih =>
    obtain ⟨hrun, hdue⟩ := ih
    rw [runOps_timesOps_succ hrun, runOps_tickOps hdue, Function.iterate_succ_apply']
    exact ⟨rfl, rfl⟩

theorem iterate_afterTick_cfg (s : State) (n : Nat) : (afterTick^[n] s).cfg = s.cfg :=
  congrFun (Function.iterate_invariant (funext afterTick_cfg) n) s

theorem iterate_afterTick_mode (s : State) (n : Nat) : (afterTick^[n] s).mode = s.mode :=
  congrFun (Function.iterate_invariant (funext afterTick_mode) n) s

/-- `n` ticks advance the clock by `n` modulo 2^W (R116). -/
theorem iterate_afterTick_clock (s : State) (n : Nat) :
    (afterTick^[n] s).clock % 2 ^ s.cfg.clockBits = (s.clock + n) % 2 ^ s.cfg.clockBits := by
  induction n with
  | zero => rfl
  | succ n ih =>
    rw [Function.iterate_succ_apply', afterTick_clock, iterate_afterTick_cfg, addW, Nat.mod_mod, Nat.add_mod, ih,
      ← Nat.add_mod, Nat.add_assoc]

/-! ## The test sequence -/

theorem opSeqStep_out (s : State) : (opSeqStep s).out = s.cfg.testSeqImage s.seqStep := by
  rcases opSeqStep_cases s with ⟨-, e⟩ | ⟨-, -, e⟩ | ⟨-, -, e⟩ <;> rw [e]

section Sequence

variable {s : State} (hsteps : s.cfg.seqSteps = 15) (hticks : s.cfg.seqStepTicks = 60)
  (hactive : s.seqActive = true) (hstep : s.seqStep = 0) (htimer : s.seqTimer = 0)
include hsteps hticks hactive hstep htimer

/-- Before tick 900 the sequence is active, and step and timer are the tick number in base 60 (R92). -/
theorem sequence_before_end {n : Nat} (hn : n < 900) :
    (afterTick^[n] s).seqActive = true ∧ (afterTick^[n] s).seqStep = n / 60 ∧ (afterTick^[n] s).seqTimer = n % 60 := by
  induction n with
  | zero => exact ⟨hactive, hstep, htimer⟩
  | succ n ih =>
    obtain ⟨hactive', hstep', htimer'⟩ := ih (by omega)
    have hcfg := iterate_afterTick_cfg s n
    rw [Function.iterate_succ_apply', afterTick_seqActive, afterTick_seqStep, afterTick_seqTimer,
      opRender_of_active hactive']
    by_cases hend : n % 60 + 1 = 60
    · rw [opSeqStep_at_step_end (by rw [htimer', hcfg, hticks, hend]) (by rw [hstep', hcfg, hsteps]; omega)]
      exact ⟨hactive', by dsimp only; omega, by dsimp only; omega⟩
    · rw [opSeqStep_within_step (by rw [htimer', hcfg, hticks]; exact hend)]
      exact ⟨hactive', by dsimp only; omega, by dsimp only; omega⟩

/-- Tick 900 is the last tick of the last step (R92). -/
theorem sequence_at_end :
    (afterTick^[900] s).seqActive = false ∧ (afterTick^[900] s).seqStep = 0 ∧ (afterTick^[900] s).seqTimer = 0 := by
  obtain ⟨hactive', hstep', htimer'⟩ := sequence_before_end hsteps hticks hactive hstep htimer (n := 899) (by omega)
  have hcfg := iterate_afterTick_cfg s 899
  rw [Function.iterate_succ_apply', afterTick_seqActive, afterTick_seqStep, afterTick_seqTimer,
    opRender_of_active hactive', opSeqStep_at_sequence_end (by rw [htimer', hcfg, hticks])
      (by rw [hstep', hcfg, hsteps])]
  exact ⟨rfl, rfl, rfl⟩

/-- The tick after tick `n` shows the step that tick found (R92), and in Debug mode tick 900 does too. -/
theorem sequence_out {n : Nat} (hn : n < 900) (hshown : n + 1 < 900 ∨ s.mode = .debug) :
    (afterTick^[n + 1] s).out = s.cfg.testSeqImage (n / 60) := by
  obtain ⟨hactive', hstep', -⟩ := sequence_before_end hsteps hticks hactive hstep htimer hn
  have hkept : (opRender (afterTick^[n] s)).seqActive = true ∨ (afterTick^[n] s).mode = .debug := by
    rcases hshown with hlater | hdebug
    · obtain ⟨hgoes, -⟩ := sequence_before_end hsteps hticks hactive hstep htimer hlater
      rw [Function.iterate_succ_apply', afterTick_seqActive] at hgoes
      exact .inl hgoes
    · exact .inr ((iterate_afterTick_mode s n).trans hdebug)
  rw [Function.iterate_succ_apply', afterTick_out hkept, opRender_of_active hactive', opSeqStep_out, hstep',
    iterate_afterTick_cfg]

end Sequence

/-- Settles O45: the registers of the sequence, the latch and the clock after `n` ticks. -/
theorem testSequenceTakesNineHundredTicks : Obligations.TestSequenceTakesNineHundredTicks := by
  intro s n hsteps hticks hphase hactive hstep htimer hn
  obtain ⟨hrun, hdue⟩ := runOps_timesOps_tickOps hphase n
  refine ⟨_, hrun, hdue, sequence_before_end hsteps hticks hactive hstep htimer, ?_, fun image hpos himage hshown => ?_,
    iterate_afterTick_clock s n⟩
  · rintro rfl
    exact sequence_at_end hsteps hticks hactive hstep htimer
  · obtain ⟨m, rfl⟩ := Nat.exists_eq_add_one.2 hpos
    exact (sequence_out hsteps hticks hactive hstep htimer hn hshown).trans (testSeqImage_of_entry himage)

end Sys2Proof.Machine
end

section
/-! PROOFS. RENDER outside the test sequence and the pattern generator PG: every pattern with the source's periods and
windows (44_pattern_generator.md R99 to R109, R112). -/

namespace Sys2Proof.Machine

/-! ## Driving the latch -/

/-- A masked lamp takes the pattern's value, any other keeps its own, for a pattern lit inside its mask only (R101). -/
theorem drive_getLsbD {p : Lamps × Lamps} (hmask : p.2 &&& p.1 = p.2) (out : Lamps) {k : Nat} (hk : k < 5) :
    (drive out p).getLsbD k = if p.1.getLsbD k = true then p.2.getLsbD k else out.getLsbD k := by
  have hlit : (p.2.getLsbD k && p.1.getLsbD k) = p.2.getLsbD k := by rw [← BitVec.getLsbD_and, hmask]
  cases hm : p.1.getLsbD k
  · rw [hm, Bool.and_false] at hlit
    rw [if_neg nofun, drive, BitVec.getLsbD_or, BitVec.getLsbD_and, BitVec.getLsbD_not, hm, ← hlit]
    simp [hk]
  · simp [drive, hm]

/-- A pattern with all five lamps in its mask is shown as it is (R107, R109). -/
theorem drive_allMask (out val : Lamps) : drive out (allMask, val) = val := by
  have hnone : ~~~allMask = 0#5 := by decide
  rw [drive, hnone, BitVec.and_zero, BitVec.zero_or]

/-- Driving the same pattern again changes nothing (R101 c). -/
theorem drive_drive (out : Lamps) (p : Lamps × Lamps) : drive (drive out p) p = drive out p := by
  ext k hk
  simp only [drive, BitVec.getElem_or, BitVec.getElem_and]
  cases (~~~p.1)[k] <;> simp

/-! ## PG, mode by mode -/

theorem lamps_left (b : Bool) : lamps false b false b false = if b then 0x0A else 0x00 := by cases b <;> rfl

theorem lamps_right (b : Bool) : lamps b false b false false = if b then 0x14 else 0x00 := by cases b <;> rfl

theorem lamps_sides (b : Bool) : lamps b b b b false = if b then 0x1E else 0x00 := by cases b <;> rfl

theorem lamps_alternating (d first : Bool) :
    lamps (d && !first) (d && first) (d && !first) (d && first) d =
      if d then if first then 0x0B else 0x15 else 0x00 := by
  cases d <;> cases first <;> rfl

section PG

variable (c : Config) (e : EPat) (d : Fin nDebugPos) (clock : Nat)

theorem pg_off : pg c .off e d clock = (sidesMask, 0x00) := rfl

theorem pg_left : pg c .left e d clock = (sidesMask, if blinkOn c clock then 0x0A else 0x00) :=
  congrArg (Prod.mk sidesMask) (lamps_left _)

theorem pg_right : pg c .right e d clock = (sidesMask, if blinkOn c clock then 0x14 else 0x00) :=
  congrArg (Prod.mk sidesMask) (lamps_right _)

theorem pg_hazard : pg c .emergency .hazard d clock = (sidesMask, if blinkOn c clock then 0x1E else 0x00) :=
  congrArg (Prod.mk sidesMask) (lamps_sides _)

theorem pg_pulse :
    pg c .emergency .pulse d clock =
      (sidesMask, if inWindows c.pulseWindows (clock % c.periodBlink) then 0x1E else 0x00) :=
  congrArg (Prod.mk sidesMask) (lamps_sides _)

theorem pg_all :
    pg c .emergency .all d clock =
      (allMask, if inWindows c.pulseWindows (clock % c.periodAllSub) then
        if decide (clock % c.periodBlink < c.periodAllSub) then 0x0B else 0x15 else 0x00) :=
  congrArg (Prod.mk allMask) (lamps_alternating _ _)

theorem pg_sos :
    pg c .emergency .sos d clock =
      (sidesMask, if inWindows c.sosWindows (clock % c.periodSos) then 0x1E else 0x00) :=
  congrArg (Prod.mk sidesMask) (lamps_sides _)

theorem pg_debug : pg c .debug e d clock = (allMask, c.debugLut.get d) := rfl

/-- No pattern lights a lamp outside its mask (R99). -/
theorem pg_val_and_mask (m : Mode) : (pg c m e d clock).2 &&& (pg c m e d clock).1 = (pg c m e d clock).2 := by
  cases m with
  | off => exact BitVec.zero_and
  | left => rw [pg_left]; split_ifs <;> rfl
  | right => rw [pg_right]; split_ifs <;> rfl
  | emergency =>
    cases e with
    | hazard => rw [pg_hazard]; split_ifs <;> rfl
    | pulse => rw [pg_pulse]; split_ifs <;> rfl
    | all => rw [pg_all]; exact BitVec.and_allOnes
    | sos => rw [pg_sos]; split_ifs <;> rfl
  | debug => exact BitVec.and_allOnes

end PG

/-! ## RENDER outside the test sequence -/

/-- RENDER drives PG's lamps and moves the turn on (R101). -/
theorem exec_render_of_idle {s : State} (hphase : s.tphase = .render) (hidle : s.seqActive = false) :
    exec .render s =
      .next { s with out := drive s.out (pg s.cfg s.mode s.epat s.dpos s.clock), tphase := .mirror } := by
  have hrender : opRender s = { s with out := drive s.out (pg s.cfg s.mode s.epat s.dpos s.clock) } :=
    if_neg (by simp [hidle])
  exact inTurn_next_iff.2 ⟨hphase, by rw [hrender]; rfl⟩

/-- Settles O28: SEQSTEP in the test sequence, else PG's lamps are driven. -/
theorem renderResult : Obligations.RenderResult := by
  intro s hphase
  refine ⟨fun hactive => ?_, fun hidle => ⟨_, exec_render_of_idle hphase hidle, rfl, fun k hk => ?_⟩⟩
  · exact opRender_of_active hactive ▸ exec_due (p := .render) hphase
  · exact drive_getLsbD (pg_val_and_mask ..) s.out hk

/-- Settles O36: RENDER writes only `out` and the turn, so the second one drives the same pattern again. -/
theorem renderIsIdempotent : Obligations.RenderIsIdempotent := by
  intro s t hidle h
  obtain ⟨hphase, -⟩ := inTurn_next_iff.1 h
  rw [exec_render_of_idle hphase hidle] at h
  injection h with h
  subst h
  simp only [exec_render_of_idle, hidle, drive_drive]

/-- Settles O34: in Debug the mask has all five lamps, so RENDER shows the table entry itself. -/
theorem debugModeShowsTheTable : Obligations.DebugModeShowsTheTable := by
  refine ⟨pg_debug, fun s hphase hidle hmode => ?_⟩
  rw [exec_render_of_idle hphase hidle, hmode, pg_debug, drive_allMask]

/-! ## The patterns with the source's periods and windows -/

theorem inWindows_iff {ws : List (Nat × Nat)} {p : Nat} :
    inWindows ws p = true ↔ ∃ w ∈ ws, w.1 < p ∧ p ≤ w.2 := by
  simp only [inWindows, List.any_eq_true, win_iff]

/-- Windows are open below, so none holds 0. -/
@[simp] theorem inWindows_zero (ws : List (Nat × Nat)) : inWindows ws 0 = false := by
  simp [← Bool.not_eq_true, inWindows_iff]

@[simp] theorem blinkOn_zero (c : Config) : blinkOn c 0 = false := by simp [blinkOn]

/-- Settles O30: Left, Right and Hazard are lit by the same window. -/
theorem blinkPatterns : Obligations.BlinkPatterns := by
  intro c e d clock hperiod hwindows
  have hblink : blinkOn c clock = true ↔ 0 < clock % 500 ∧ clock % 500 ≤ 250 := by
    simp [blinkOn, hperiod, hwindows, inWindows_iff]
  simp only [← hblink]
  exact ⟨pg_off .., pg_left .., pg_right .., pg_hazard ..⟩

/-- Settles O31: the two windows of the double pulse. -/
theorem pulsePattern : Obligations.PulsePattern := by
  intro c d clock hperiod hwindows
  have hpulse : inWindows c.pulseWindows (clock % c.periodBlink) = true ↔
      0 < clock % 500 ∧ clock % 500 ≤ 100 ∨ 150 < clock % 500 ∧ clock % 500 ≤ 250 := by
    simp [hperiod, hwindows, inWindows_iff]
  simp only [← hpulse]
  exact pg_pulse ..

/-- Settles O32: the sub-cycle is over at 250, so the second window of the double pulse has no upper end. -/
theorem allPattern : Obligations.AllPattern := by
  intro c d clock hperiod hsub hwindows
  have hend : clock % 250 ≤ 250 := (Nat.mod_lt clock (by decide)).le
  have hpulse : inWindows c.pulseWindows (clock % c.periodAllSub) = true ↔
      0 < clock % 250 ∧ clock % 250 ≤ 100 ∨ 150 < clock % 250 := by
    simp [hsub, hwindows, inWindows_iff, hend]
  have hfirst : decide (clock % c.periodBlink < c.periodAllSub) = true ↔ clock % 500 < 250 := by
    simp [hperiod, hsub]
  simp only [← hpulse, ← hfirst]
  exact pg_all ..

/-- Settles O33: the six windows of the period. -/
theorem sosPattern : Obligations.SosPattern := by
  intro c d clock p hperiod hwindows hp
  have hsos : inWindows c.sosWindows (clock % c.periodSos) = true ↔
      0 < p ∧ p ≤ 100 ∨ 200 < p ∧ p ≤ 300 ∨ 400 < p ∧ p ≤ 500 ∨ 700 < p ∧ p ≤ 900 ∨
        1000 < p ∧ p ≤ 1200 ∨ 1300 < p ∧ p ≤ 1500 := by
    simp [hperiod, hwindows, ← hp, inWindows_iff]
  simp only [← hsos]
  exact pg_sos ..

/-- Settles O35: at clock 0 every phase is 0, in no window. -/
theorem patternsAreDarkAtPhaseZero : Obligations.PatternsAreDarkAtPhaseZero := by
  intro c m e d _ hdebug
  cases m with
  | off => rfl
  | left => simp [pg_left]
  | right => simp [pg_right]
  | emergency =>
    cases e with
    | hazard => simp [pg_hazard]
    | pulse => simp [pg_pulse]
    | all => simp [pg_all]
    | sos => simp [pg_sos]
  | debug => exact absurd rfl hdebug

end Sys2Proof.Machine
end

section
/-! PROOFS. The order of the main loop (45_brake_mirror_and_tick.md R117): every operation and every trace completes
with its micro-operations in turn, and is refused with one out of turn (30_encoding.md R60, 60_exceptions.md R122). -/

namespace Sys2Proof.Machine

/-! ## One operation -/

theorem exec_out_of_turn {s : State} {p : TPhase} (h : s.tphase ≠ p) :
    exec p.instr s = .refused (.outOfTurn p s.tphase) := by rw [exec_instr, inTurn_of_ne h]

/-- An event operation or RESET completes; of these only RESET writes `tphase` (R117, R135). -/
theorem exists_exec_next_tphase {i : Instr} (s : State) (hphase : instrPhase i = none) :
    ∃ t, exec i s = .next t ∧ t.tphase = if i.isReset then .render else s.tphase := by
  obtain ⟨t, h⟩ := exists_exec_next s hphase
  refine ⟨t, h, ?_⟩
  cases hreset : i.isReset
  · exact exec_tphase_of_no_phase hreset hphase h
  · cases i <;> cases hreset
    injection h with h
    exact h ▸ rfl

/-- Settles O42: the micro-operations by their turn, the other operations by what they write. -/
theorem tphaseSequencing : Obligations.TphaseSequencing := by
  intro i s
  refine ⟨fun p hi hturn => ?_, fun p hi hturn => ?_, exists_exec_next_tphase s⟩ <;>
    rw [instrPhase_eq_some_iff.1 hi]
  · exact exec_out_of_turn hturn
  · exact ⟨_, exec_due hturn, rfl⟩

/-! ## Whole traces -/

theorem traceInTurn_cons_of_no_phase {i : Instr} (hphase : instrPhase i = none) (p : TPhase) (rest : List Instr) :
    traceInTurn p (i :: rest) = traceInTurn (if i.isReset then .render else p) rest := by
  rw [traceInTurn, hphase]

theorem traceInTurn_cons_instr (p q : TPhase) (rest : List Instr) :
    traceInTurn p (q.instr :: rest) = (decide (q = p) && traceInTurn p.next rest) := by
  rw [traceInTurn, instrPhase_eq_some_iff.2 rfl]

/-- What a trace answers: a next state when its micro-operations are in turn, else the refusal of one that is not. -/
theorem runOps_by_turn (ops : List Instr) (s : State) :
    if traceInTurn s.tphase ops = true then ∃ t, runOps ops s = .next t
    else ∃ p q, runOps ops s = .refused (.outOfTurn p q) := by
  induction ops generalizing s with
  | nil => exact ⟨s, rfl⟩
  | cons i rest ih =>
    cases hphase : instrPhase i with
    | none =>
      obtain ⟨t, h, ht⟩ := exists_exec_next_tphase s hphase
      rw [traceInTurn_cons_of_no_phase hphase, ← ht, runOps_cons_next h]
      exact ih t
    | some q =>
      rw [instrPhase_eq_some_iff.1 hphase, traceInTurn_cons_instr]
      by_cases hturn : s.tphase = q
      · rw [hturn, decide_eq_true rfl, Bool.true_and, runOps_cons_next (exec_due hturn)]
        exact ih { q.effect s with tphase := q.next }
      · rw [decide_eq_false (Ne.symm hturn), Bool.false_and, runOps_cons, exec_out_of_turn hturn]
        exact ⟨q, s.tphase, rfl⟩

/-- Settles O60: the turns decide whether the trace completes, and a trace that completes keeps the invariants. -/
theorem tracesInTurnRunSafely : Obligations.TracesInTurnRunSafely := by
  intro ops s hinv
  have hrun := runOps_by_turn ops s
  constructor
  · intro hturn
    rw [if_pos hturn] at hrun
    obtain ⟨t, ht⟩ := hrun
    exact ⟨t, ht, inv_runOps hinv ht⟩
  · intro hturn
    rwa [hturn, if_neg nofun] at hrun

end Sys2Proof.Machine
end

section
/-! PROOFS. MIRROR, RESYNC and ADVANCE, each whole (45_brake_mirror_and_tick.md R114 to R116), and the net effect of an
uninterrupted tick (R118, R142). -/

namespace Sys2Proof.Machine

/-! ## The front light -/

/-- Writing the front light is driving that one lamp (R52, R101). -/
theorem setFront_eq_drive (out : Lamps) (f : Level) :
    setFront out f = drive out (0b00001#5, if f then 0b00001#5 else 0b00000#5) := by
  have hmask : ~~~0b00001#5 = 0b11110#5 := by decide
  rw [setFront, drive, hmask]

theorem setFront_of_ne {k : Nat} (hk : k ≠ 0) (out : Lamps) (f : Level) :
    (setFront out f).getLsbD k = out.getLsbD k := by
  rcases Nat.lt_or_ge k 5 with hlamp | hbeyond
  · rw [setFront_eq_drive, drive_getLsbD (by cases f <;> rfl) out hlamp, if_neg (by simp [hk])]
  · rw [BitVec.getLsbD_of_ge _ _ hbeyond, BitVec.getLsbD_of_ge _ _ hbeyond]

theorem setFront_eq (out : Lamps) (f : Level) :
    setFront out f = (out &&& 0b11110#5) ||| (BitVec.ofBool f).setWidth 5 := by cases f <;> rfl

/-! ## The micro-operations one by one -/

/-- MIRROR's effect, both cases at once: only the latch is written (R114). -/
theorem opMirror_eq (s : State) :
    opMirror s =
      { s with out := if s.mode ≠ .debug ∧ s.seqActive = false then setFront s.out s.inBrk else s.out } := by
  unfold opMirror
  split_ifs <;> rfl

/-- RESYNC's effect, both cases at once: only the hold timer is written (R115). -/
theorem opResync_eq (s : State) :
    opResync s =
      { s with
        armed := if resyncDisarms s = true then false else s.armed
        holdCounter := if resyncDisarms s = true then 0 else s.holdCounter
        tcntCleared := if resyncDisarms s = true then true else s.tcntCleared } := by
  unfold opResync
  split_ifs <;> rfl

/-- With RESYNC_GATE = outside and pressed = LOW: the pin reads released and the debounce gate passes (D17). -/
theorem resyncDisarms_outside_iff {s : State} (hgate : s.cfg.resyncGate = .outside)
    (hlow : s.cfg.rstPressedLevel = LOW) :
    resyncDisarms s = true ↔
      s.inRst = HIGH ∧ accept s.cfg.clockBits s.clock s.lastResetTime s.cfg.debounceMin = true := by
  rw [resyncDisarms_iff, hlow, resyncGateOk, hgate]
  exact and_congr_left' (Bool.not_eq_false _).to_iff

/-- One more modulo 2^W wraps the last value to 0 and only that one (R9). -/
theorem addW_one {w a : Nat} (ha : a < 2 ^ w) : addW w a 1 = if a + 1 = 2 ^ w then 0 else a + 1 := by
  rw [addW]
  split_ifs with hlast
  · rw [hlast, Nat.mod_self]
  · exact Nat.mod_eq_of_lt (by omega)

/-- MIRROR in turn: the front light or nothing, and on to RESYNC (R114). -/
theorem exec_mirror_of_turn {s : State} (h : s.tphase = .mirror) :
    exec .mirror s = .next
      { s with
        out := if s.mode ≠ .debug ∧ s.seqActive = false then setFront s.out s.inBrk else s.out
        tphase := .resync } := by
  rw [exec_mirror, execMirror, inTurn_next_iff, opMirror_eq]
  exact ⟨h, rfl⟩

/-- Settles O38: MIRROR writes the front light or nothing. -/
theorem mirrorResult : Obligations.MirrorResult := by
  intro s hturn
  refine ⟨_, exec_mirror_of_turn hturn, rfl, ?_⟩
  by_cases hshows : s.mode ≠ .debug ∧ s.seqActive = false
  · simp only [if_pos hshows]
    exact ⟨fun k hk => setFront_of_ne hk s.out s.inBrk, setFront_front s.out s.inBrk⟩
  · simp only [if_neg hshows, implies_true, and_self]

/-- Settles O39: RESYNC in turn, with its condition for these constants. -/
theorem resyncResult : Obligations.ResyncResult := by
  intro s hturn hgate hlow
  rw [exec_resync_of_turn hturn]
  simp only [← resyncDisarms_iff, resyncDisarms_outside_iff hgate hlow]

/-- Settles O41: ADVANCE writes the clock, which fits in W bits, and the turn. -/
theorem advanceResult : Obligations.AdvanceResult := by
  intro s hturn hfits
  rw [← addW_one hfits]
  exact exec_due (p := .advance) hturn

/-! ## One tick, whole -/

/-- A tick from between two ticks, for every configuration: what RENDER leaves, then the front light, the hold timer and
the clock, each from the registers before the tick (R118). RESYNC's condition reads only registers that RENDER and
MIRROR keep. -/
theorem afterTick_eq {s : State} (hphase : s.tphase = .render) :
    afterTick s =
      { opRender s with
        out :=
          if s.mode ≠ .debug ∧ (opRender s).seqActive = false then setFront (opRender s).out s.inBrk
          else (opRender s).out
        armed := if resyncDisarms s = true then false else s.armed
        holdCounter := if resyncDisarms s = true then 0 else s.holdCounter
        tcntCleared := if resyncDisarms s = true then true else s.tcntCleared
        clock := addW s.cfg.clockBits s.clock 1 } := by
  simp [afterTick, opMirror_eq, opResync_eq, opAdvance, hphase, resyncDisarms, resyncGateOk, gateOpen]

/-- Settles O43: the tick of R118 with its conditions and the light written out for these constants. -/
theorem tickNetEffect : Obligations.TickNetEffect := by
  intro s s1 hphase hgate hlow hmin hs1
  have hrender : s1 = opRender s := hs1
  rw [runOps_tickOps hphase, afterTick_eq hphase, hrender]
  simp only [resyncDisarms_outside_iff hgate hlow, hmin, setFront_eq, addW]

/-- Settles O44: MIRROR is the last of a tick's micro-operations to write the latch. -/
theorem frontLightShowsTheBrakeAfterATick : Obligations.FrontLightShowsTheBrakeAfterATick := by
  intro s hphase
  refine ⟨_, runOps_tickOps hphase, fun hmode hidle => ?_⟩
  rw [afterTick_mode] at hmode
  rw [afterTick_seqActive] at hidle
  rw [afterTick_eq hphase]
  dsimp only
  rw [if_pos ⟨hmode, hidle⟩]
  exact setFront_front _ _

end Sys2Proof.Machine
end

section
/-! PROOFS. RESET (70_reset_and_hazards.md R135), what waits for it (R137; 93_implementation_defined.md U4, U9), and the
hazard of a bouncing press in Emergency mode (R139). -/

namespace Sys2Proof.Machine

/-! ## The bouncing press -/

theorem subW_self (w a : Nat) : subW w a a = 0 := by
  rw [subW, Nat.add_sub_cancel' (Nat.mod_lt _ (Nat.two_pow_pos w)).le, Nat.mod_self]

/-- The escape of the gate: a clock below the last accepted edge passes it (R67, R72). -/
theorem gateOpen_of_clock_lt {s : State} (h : s.clock < s.lastResetTime) : gateOpen s = true := accept_iff.2 (.inr h)

/-- In the tick of the last accepted edge the gate is closed (R72). -/
theorem gateOpen_of_same_tick {s : State} (h : s.clock = s.lastResetTime) : gateOpen s = false := by
  rw [← Bool.not_eq_true, gateOpen, accept_iff, h, subW_self]
  omega

/-- While the gate is closed only the edge reference moves (R68). -/
theorem exec_pinRst_of_rejected {s : State} (v : Level) (hgate : gateOpen s = false) :
    exec (.pinRst v) s = .next { s with inRst := v } := by
  obtain ⟨t, h⟩ := Line.rst.exists_exec_op v s
  refine h.trans (congrArg _ ?_)
  rcases execPinRst_cases h with ⟨rfl, rfl⟩ | ⟨-, -, rfl⟩ | ⟨-, hopen, -, -⟩ | ⟨-, hopen, -, -⟩
  · rfl
  · rfl
  · exact absurd hopen (by simp [hgate])
  · exact absurd hopen (by simp [hgate])

/-- An accepted press in Emergency mode with the brake released stores the time, then restarts the clock (R88). -/
theorem exec_pinRst_press_emergency {s : State} (hlow : s.cfg.rstPressedLevel = LOW) (hmode : s.mode = .emergency)
    (hbrake : s.inBrk = RELEASED) (hup : s.inRst = HIGH) (hgate : gateOpen s = true) :
    exec (.pinRst LOW) s = .next
      { s with
        inRst := LOW, clock := 0, lastResetTime := s.clock, epat := s.epat.next, dbgCount := 0,
        armed := true, holdCounter := 0, tcntCleared := true } := by
  have hpromotes : ¬ promotes { s with inRst := LOW } := fun h => by simp [promotes, hbrake] at h
  rw [exec_pinRst_of_accepted (by simp [hup]) hgate, opResetEdge_pressed (by exact hlow.symm),
    opPress_of_not_promotes hpromotes]
  simp [hmode, hbrake]

/-- With the button down and the clock below the last accepted edge, a bounce up is accepted and disarms; it stores the
clock, so the bounce down in the same tick is lost (R139). -/
theorem runOps_bounce {s : State} (hlow : s.cfg.rstPressedLevel = LOW) (hdown : s.inRst = LOW)
    (hclock : s.clock < s.lastResetTime) :
    runOps [.pinRst HIGH, .pinRst LOW] s = .next
      { s with inRst := LOW, lastResetTime := s.clock, armed := false, holdCounter := 0, tcntCleared := true } := by
  rw [runOps_cons_next (releaseResult s hlow hdown (gateOpen_of_clock_lt hclock)), runOps_singleton]
  exact exec_pinRst_of_rejected LOW (gateOpen_of_same_tick rfl)

/-- Settles O20: the accepted press restarts the clock below the time it stores, and then the button bounces. -/
theorem bouncingPressStopsTheHoldTimer : Obligations.BouncingPressStopsTheHoldTimer := by
  intro s hlow hmode hbrake hup hgate hclock
  rw [runOps_cons_next (exec_pinRst_press_emergency hlow hmode hbrake hup hgate)]
  exact runOps_bounce hlow rfl hclock

/-! ## Before the first RESET -/

theorem step_of_bad_configuration {s : State} (h : s.cfg.wf = false) : step s = .refused .badConfiguration := by
  have hfetch : fetch s = .error .badConfiguration := if_neg (by simp [h])
  rw [step, hfetch]

/-- Before the first RESET the fetch refuses every other operation (U4). -/
theorem step_before_reset {s u : State} {i : Instr} (hw : s.cfg.wf = true) (hr : s.resetDone = false)
    (hi : i.isReset = false) (hn : nextOp s = .ok (i, u)) : step s = .refused .beforeReset := by
  have hfetch : fetch s = .error .beforeReset := by
    simp only [fetch, hw, hn, hr, hi, Bool.or_self, Bool.false_eq_true, if_true, if_false]
  rw [step, hfetch]

/-- RESET completes, performs the first RESET, and leaves the instants still to come (R135, log 14, log 20). -/
theorem exec_of_isReset {i : Instr} (hi : i.isReset = true) (s : State) :
    ∃ t, exec i s = .next t ∧ t.resetDone = true ∧ t.ports = s.ports := by
  cases i with
  | reset brk0 rst0 dt0 clk0 => exact ⟨_, execReset_eq brk0 rst0 dt0 clk0 s, rfl, rfl⟩
  | nop | pinClk | pinDt | pinRst | pinBrk | ovf | render | mirror | resync | advance => cases hi

/-- An instant with no RESET among its operations does not begin with one. -/
theorem takeInstant_isReset {ops : List Instr} (h : ∀ i ∈ ops, i.isReset = false) (s : State) :
    (takeInstant ops s).1.isReset = false := by
  cases ops with
  | nil => rfl
  | cons i more => exact h i List.mem_cons_self

/-- An instant with `rst_sys` runs RESET, before the first one too (R137 (4)). -/
theorem step_of_rstSys {s : State} {p : PortInputs} {later : List PortInputs} (hw : s.cfg.wf = true)
    (ht : s.trace = []) (hp : s.ports = p :: later) (hrst : p.rstSys = true) :
    step s = exec (resetOp s.cfg p.lines) { s with ports := later } :=
  step_of_nextOp hw (.inr rfl) (by
    rw [nextOp_of_instant ht hp, portOps_of_rstSys hrst, takeInstant_singleton (by exact ht)])

/-- Settles O9: whatever the next operation is, a word's or an instant's, only RESET passes the fetch, and too few clock
bits fail its first test. -/
theorem stepRefusesBeforeResetAndBadConfiguration : Obligations.StepRefusesBeforeResetAndBadConfiguration := by
  refine ⟨?_, ?_, ?_⟩
  · intro s w rest i hw hr ht hd
    have hnext := nextOp_of_word ht hd
    refine ⟨fun hi => step_before_reset hw hr hi hnext, fun hi => ?_⟩
    obtain ⟨t, hexec, hdone, -⟩ := exec_of_isReset hi { s with trace := rest }
    exact ⟨t, (step_of_nextOp hw (.inr hi) hnext).trans hexec, hdone⟩
  · intro s hw hr ht
    refine ⟨fun hp => step_before_reset hw hr rfl (nextOp_of_no_input ht hp), fun p later hp => ⟨fun hrst => ?_,
      fun hrst => ?_⟩⟩
    · have hnone : ∀ i ∈ portOps s p, i.isReset = false := isReset_of_mem_instant hw hrst (.refl _)
      exact step_before_reset hw hr (takeInstant_isReset hnone _) (nextOp_of_instant ht hp)
    · rw [step_of_rstSys hw ht hp hrst]
      exact exec_of_isReset rfl { s with ports := later }
  · intro s hbits
    refine step_of_bad_configuration (Bool.eq_false_iff.2 fun hw => ?_)
    have hclock : 11 ≤ s.cfg.clockBits := ((wf_iff _).1 hw).1
    omega

/-! ## RESET -/

/-- Settles O46: RESET leaves the state after reset with the inputs still to come. -/
theorem resetResult : Obligations.ResetResult := fun s brk0 rst0 dt0 clk0 => execReset_eq brk0 rst0 dt0 clk0 s

end Sys2Proof.Machine
end
